-- ==== Sys2Proof/Word.lean ====
section
/-! DEFINITION. The widths and index types of the part, and the plainest arithmetic on its words
(spec/00_scope.md, Units and conventions; spec/01, section 1.1). -/

namespace Sys2Proof

/-- One byte of the window (section 1.1). -/
abbrev Byte := BitVec 8

/-- One aligned word of the window, or one register (section 1.1, R1). -/
abbrev Word := BitVec 16

/-- A line of the shelf, 0 to 63. -/
abbrev LineNo := Fin 64

/-- A card slot of the shelf, 0 to 7. -/
abbrev CardNo := Fin 8

/-- A slot of the ring frame, 0 to 11; sums and differences wrap modulo 12. -/
abbrev FrameSlot := Fin 12

/-- A moment since power-on, counted in quarter microseconds.  A millisecond of shelf time is 4000
of them, a microsecond (R122) 4 of them, and the 31.25 µs between two reads (R24) 125 of them. -/
abbrev Instant := Nat

/-- The low byte of a word, at the even offset (section 1.1). -/
def lowByte (w : Word) : Byte := w.setWidth 8

/-- The high byte of a word, at the odd offset (section 1.1). -/
def highByte (w : Word) : Byte := (w >>> 8).setWidth 8

/-- The word whose high byte is `hi` and low byte `lo`. -/
def joinBytes (hi lo : Byte) : Word := hi ++ lo

end Sys2Proof
end

