-- ==== Sys2Proof/Config.lean ====
section
/-! DEFINITION. The fixed quantities of the part: its periods, intervals and list depth, each with the
rule that states it, and the one outside condition that `State.reset` presumes. The spec leaves no
value of any operation open but the line number of an empty attention latch (log 27), so this file holds no
free value. -/

namespace Sys2Proof.Config

/-- Quarter microseconds in a millisecond of shelf time. -/
abbrev ticksPerMs : Nat := 4000

/-- Quarter microseconds in a microsecond (R122 keeps crossing times to the microsecond). -/
abbrev ticksPerUs : Nat := 4

/-- Quarter microseconds between the reads of successive lines: 31.25 µs (R24). -/
abbrev readStep : Nat := 125

/-- STARTING lasts 16 ms (R17). -/
abbrev startingMs : Nat := 16

/-- The loss interval of a card slot (R27). -/
abbrev lossMs : Nat := 100

/-- The return interval of a card slot (R27). -/
abbrev returnMs : Nat := 500

/-- One slot of the ring frame (R91). -/
abbrev slotMs : Nat := 500

/-- The ring-transient window (R47). -/
abbrev windowMs : Nat := 10

/-- The settle time of the line test (R136). -/
abbrev settleMs : Nat := 10

/-- Good spacings that qualify the ring source (R123). -/
abbrev qualifyCount : Nat := 8

/-- Samples of a learning (R43), and measuring samples of a line test (R137). -/
abbrev eightSamples : Nat := 8

/-- Entries of a report list (R140). -/
abbrev listDepth : Nat := 8

/-- DESIGN CHOICE (log 2), unsafe: the card presence inputs that `State.reset` finds, bit c for slot c,
1 for seated.  The inputs belong to the outside; POWER_ON carries them as an operand. -/
abbrev seatedAtReset : Byte := 0xFF

end Sys2Proof.Config
end

