-- ==== Sys2Proof/Syntax.lean ====
section
/-! DEFINITION. The commands of the part: one constructor per row of spec/opcode_table.json, with the
operands that the row's rules name. -/

namespace Sys2Proof

/-- A write on the shelf processor bus: 14 address lines select a word of the window, and two byte
enables select one or both of its bytes (section 1.1, R1). -/
structure BusWrite where
  /-- The word selected; its byte offsets are `2 * addr` and `2 * addr + 1`. -/
  addr : BitVec 14
  /-- The 16 data lines. -/
  data : Word
  /-- The enable of the low byte. -/
  low : Bool
  /-- The enable of the high byte. -/
  high : Bool
  deriving DecidableEq, Repr

/-- One party entry of the configuration bytes of a line record, as read (R83, Layouts). -/
structure PartyBytes where
  code : Byte
  load : Byte
  lead : Byte
  deriving DecidableEq, Repr

/-- The configuration bytes that a CONFIGURE order carries (R83): the profile index and four party
entries. -/
structure ConfigBytes where
  profile : Byte
  parties : Vector PartyBytes 4
  deriving DecidableEq, Repr

/-- The commands, in the order of spec/opcode_table.json.

The rows for orders carry the line, the sequence number and the mailbox fields that the kind uses, as
the consistent read delivered them (R11, R12).  The rows for what a sample arrival brings about carry
the line and the card's answer to the read; `none` is a card that gives no answer (R26).  `us` is the
microsecond, within the current millisecond of shelf time, at which the command is taken.

The rows that may bring a parameter load about carry the shelf processor's writes that meet its read of
the block (R20): `early` are those that land before their word is read, and `late` those that land after. -/
inductive Instr where
  /-- POWER_ON, R15, R28; bit c of `seated` is the presence input of slot c, 1 for seated. -/
  | powerOn (seated : Byte)
  /-- SHELF_TIME_TICK, R4. -/
  | shelfTimeTick
  /-- WORK_MEMORY_WRITE, R2. -/
  | workMemoryWrite (w : BusWrite)
  /-- RUN, R16: a write of the shelf control register with RUN 1 and SOFT RESET 0. -/
  | run (interruptEnable : Bool) (early late : List BusWrite := [])
  /-- HALT, R18: a write of the shelf control register with RUN 0 and SOFT RESET 0. -/
  | halt (interruptEnable : Bool)
  /-- SOFT_RESET, R19: a write of the shelf control register with SOFT RESET 1. -/
  | softReset (run interruptEnable : Bool)
  /-- INTERRUPT_ENABLE, R144: a write of the shelf control register that leaves RUN as it stands. -/
  | interruptEnable (value : Bool)
  /-- SHELF_STATUS_READ, R8. -/
  | shelfStatusRead
  /-- ATTENTION_REGISTER_READ, R143. -/
  | attentionRegisterRead
  /-- REGISTER_WRITE_IGNORED, R1, R8, R9. -/
  | registerWriteIgnored (w : BusWrite)
  /-- STARTING_END, R17. -/
  | startingEnd (early late : List BusWrite := [])
  /-- ORDER_INTAKE_VISIT, R10; `early` are the shelf processor's writes that land between the first
  sequence read and the read of the fields, `late` those that land between the fields and the second
  sequence read (R11). -/
  | orderIntakeVisit (us : Fin 1000) (early late : List BusWrite)
  /-- NOTE, R12. -/
  | note (n : LineNo) (seq : Byte)
  /-- BAD_KIND, R12. -/
  | badKind (n : LineNo) (seq kind : Byte)
  /-- SERVICE_ON, R82. -/
  | serviceOn (n : LineNo) (seq : Byte)
  /-- SERVICE_OFF, R82. -/
  | serviceOff (n : LineNo) (seq : Byte)
  /-- CONFIGURE, R83. -/
  | configure (n : LineNo) (seq : Byte) (bytes : ConfigBytes)
  /-- RING, R105. -/
  | ring (n : LineNo) (seq party maxFrames : Byte)
  /-- STOP, R108. -/
  | stop (n : LineNo) (seq : Byte)
  /-- CONNECT, R84. -/
  | connect (n : LineNo) (seq : Byte)
  /-- RELEASE, R85. -/
  | release (n : LineNo) (seq tone : Byte)
  /-- TEST, R136. -/
  | test (n : LineNo) (seq : Byte) (us : Fin 1000)
  /-- SAMPLE_ARRIVAL, R40. -/
  | sampleArrival (n : LineNo) (answer : Option Byte)
  /-- LEARNING_END, R43. -/
  | learningEnd (n : LineNo) (answer : Option Byte)
  /-- CONFIRMED_OPEN, R45. -/
  | confirmedOpen (n : LineNo) (answer : Option Byte)
  /-- CONFIRMED_CLOSE, R45. -/
  | confirmedClose (n : LineNo) (answer : Option Byte)
  /-- CLEAR, R54. -/
  | clear (n : LineNo) (answer : Option Byte)
  /-- SEIZE, R73. -/
  | seize (n : LineNo) (answer : Option Byte)
  /-- DIGIT, R77. -/
  | digit (n : LineNo) (answer : Option Byte)
  /-- ANSWER_BEFORE_RING, R115, R117. -/
  | answerBeforeRing (n : LineNo) (answer : Option Byte)
  /-- TRIP, R48, R116. -/
  | trip (n : LineNo) (answer : Option Byte)
  /-- FDT_EXPIRY, R74. -/
  | fdtExpiry (n : LineNo) (answer : Option Byte)
  /-- PDT_EXPIRY, R78. -/
  | pdtExpiry (n : LineNo) (answer : Option Byte)
  /-- CDT_EXPIRY, R80. -/
  | cdtExpiry (n : LineNo) (answer : Option Byte)
  /-- HOW_EXPIRY, R81. -/
  | howExpiry (n : LineNo) (answer : Option Byte)
  /-- GUARD_END, R118. -/
  | guardEnd (n : LineNo) (answer : Option Byte)
  /-- TEST_END, R137. -/
  | testEnd (n : LineNo) (answer : Option Byte)
  /-- PRESENCE_CHANGE, R27: the input of slot c now shows `seated`. -/
  | presenceChange (c : CardNo) (seated : Bool)
  /-- CARD_LOST, R29. -/
  | cardLost (c : CardNo)
  /-- CARD_BACK, R33. -/
  | cardBack (c : CardNo)
  /-- SLOT_BOUNDARY, R109. -/
  | slotBoundary (early late : List BusWrite := [])
  /-- RING_END_NO_ANSWER, R110: the slot boundary at which line n's booking reaches its max frames. -/
  | ringEndNoAnswer (n : LineNo) (early late : List BusWrite := [])
  /-- RING_END_WAIT_LIMIT, R113: the slot boundary at which line n's wait entry reaches the limit. -/
  | ringEndWaitLimit (n : LineNo) (early late : List BusWrite := [])
  /-- CROSSING, R123. -/
  | crossing (us : Fin 1000)
  /-- SOURCE_QUALIFIED, R123: the crossing that brings the good-crossing count to 8. -/
  | sourceQualified (us : Fin 1000)
  /-- LOSS_DEADLINE_EXPIRY, R124. -/
  | lossDeadlineExpiry (us : Fin 1000)
  deriving DecidableEq, Repr

end Sys2Proof
end

