-- ==== Sys2Proof/WellFormed.lean ====
section
/-! DEFINITION. Which terms of `Instr` are commands of the part: the checks that the operand types do
not already make. -/

namespace Sys2Proof

/-- The byte offset of a bus write's low byte in the window (section 1.1). -/
def BusWrite.offset (w : BusWrite) : Nat := 2 * w.addr.toNat

/-- The write reaches the work memory, offsets 0x0000 to 0x27FF (R1). -/
def BusWrite.inWorkMemory (w : BusWrite) : Bool := w.offset < 0x2800

/-- The write reaches the low byte of the shelf control register, which holds its acting bits (R1, R7). -/
def BusWrite.toControl (w : BusWrite) : Bool := w.offset == 0x7FF8 && w.low

/-- The writes that meet an operation lie in the work memory. -/
def allInWorkMemory (early late : List BusWrite) : Bool :=
  early.all BusWrite.inWorkMemory && late.all BusWrite.inWorkMemory

/-- A command is well formed when its operands are ones the row can have: a WORK_MEMORY_WRITE and every
write that meets a visit or a parameter load lie in the work memory; a REGISTER_WRITE_IGNORED lies
outside it and does not reach the acting bits of the control register; a BAD_KIND's kind is 8 or above
(R12). -/
def Instr.wellFormed : Instr → Bool
  | .workMemoryWrite w => w.inWorkMemory
  | .registerWriteIgnored w => !w.inWorkMemory && !w.toControl
  | .orderIntakeVisit _ early late => allInWorkMemory early late
  | .run _ early late => allInWorkMemory early late
  | .startingEnd early late => allInWorkMemory early late
  | .slotBoundary early late => allInWorkMemory early late
  | .ringEndNoAnswer _ early late => allInWorkMemory early late
  | .ringEndWaitLimit _ early late => allInWorkMemory early late
  | .badKind _ _ kind => 8 ≤ kind.toNat
  | _ => true

end Sys2Proof
end

