-- ==== Sys2Proof/Decode.lean ====
section
/-! DEFINITION. Which command a word spells. The opcode table gives no row any bits, so no table word
spells a command. What the part itself decodes is a shelf-processor access, by its byte offset (R1);
that decoding is here too. -/

namespace Sys2Proof

/-- The command that a table word spells: none, since spec/opcode_table.json gives no row any bits. -/
def decodeTableWord (_nbits _w : Nat) : Option Instr := none

/-- R1, R7: the command that a shelf-processor write is, given the RUN bit that the shelf control
register holds.  A write that sets SOFT RESET is a soft reset alone; a write that changes RUN is RUN
or HALT; a write that leaves RUN as it stands writes INTERRUPT ENABLE.  Writes that meet the load of a RUN are accesses of their
own, which the command carries (R20); none stand here. -/
def decodeBusWrite (runHeld : Bool) (w : BusWrite) : Instr :=
  if w.inWorkMemory then .workMemoryWrite w
  else if w.toControl then
    if w.data.getLsbD 2 then .softReset (w.data.getLsbD 0) (w.data.getLsbD 1)
    else if w.data.getLsbD 0 == runHeld then .interruptEnable (w.data.getLsbD 1)
    else if w.data.getLsbD 0 then .run (w.data.getLsbD 1) [] []
    else .halt (w.data.getLsbD 1)
  else .registerWriteIgnored w

/-- R1, R8, R9: the command that a shelf-processor read of the word at `addr` is; none where the read
has no effect on the part. -/
def decodeBusRead (addr : BitVec 14) : Option Instr :=
  if 2 * addr.toNat = 0x7FFA then some .shelfStatusRead
  else if 2 * addr.toNat = 0x7FFC then some .attentionRegisterRead
  else none

end Sys2Proof
end

