-- ==== Sys2Proof/Machine/State.lean ====
section
/-! DEFINITION. The state of the part, block by block (spec/00_scope.md, Block diagram), as plain data,
and the state right after power-on. -/

namespace Sys2Proof.Machine

/-! ### The shelf -/

/-- Shelf state (R14). -/
inductive ShelfState where
  | halted | starting | running
  deriving DecidableEq, Repr

/-- Ring source state (R122). -/
inductive SourceState where
  | absent | qualifying | running | failed
  deriving DecidableEq, Repr

/-- Presence state of a card slot (R27). -/
inductive Presence where
  | present | absent
  deriving DecidableEq, Repr

/-- Trip release mode (R21, R116). -/
inductive TripMode where
  | immediate | atCrossing
  deriving DecidableEq, Repr

/-- The lead on which a party is rung (Layouts, R83). -/
inductive Lead where
  | a | b | bridged
  deriving DecidableEq, Repr

/-- A compiled ring code: twelve slot marks, `true` for *on* (R89). -/
abbrev Mask := Vector Bool 12

/-- A timing profile as installed (Layouts, Timing profile; R50, R64, R87). -/
structure Profile where
  d : Nat
  sq : Nat
  pbMin : Nat
  pbMax : Nat
  flMin : Nat
  flMax : Nat
  idt : Nat
  fdt : Nat
  cdt : Nat
  how : Nat
  mc : Nat
  mo : Nat
  mt : Nat
  ll : Nat
  tripConfirm : Nat
  pdt : Nat
  deriving DecidableEq, Repr

/-- The working parameters (R15, R20). -/
structure Params where
  capacity : Nat
  tripMode : TripMode
  guardTime : Nat
  halfPeriod : Nat
  waitLimit : Nat
  priorityAge : Nat
  /-- Bit k for report kind k; bits 14 and 15 of the field are ignored (R21). -/
  quietMask : BitVec 14
  testLow : Nat
  testHigh : Nat
  profiles : Vector Profile 8
  masks : Vector Mask 16
  deriving DecidableEq, Repr

/-- The profile that an all-zero record loads as (last columns of R50, R64, R87). -/
def Profile.fromZero : Profile :=
  { d := 1, sq := 10, pbMin := 10, pbMax := 20, flMin := 60, flMax := 100, idt := 60, fdt := 2,
    cdt := 2, how := 2, mc := 8, mo := 4, mt := 16, ll := 8, tripConfirm := 1, pdt := 2 }

/-- The mask that an all-zero record compiles to: *on* at mark 0 alone (R90). -/
def Mask.fromZero : Mask := (Vector.replicate 12 false).set 0 true

/-- The working parameters after power-on: what an all-zero block loads as (R15, R21). -/
def Params.fromZero : Params :=
  { capacity := 0, tripMode := .immediate, guardTime := 10, halfPeriod := 5, waitLimit := 1,
    priorityAge := 1, quietMask := 0, testLow := 0, testHigh := 0,
    profiles := Vector.replicate 8 .fromZero, masks := Vector.replicate 16 .fromZero }

/-- The Memory Port: the host-owned bytes and the list bytes live here or in the lines; part-owned
status bytes are computed from the state they show (R2, R4, R6).  `mem` lists the host-owned bytes
that are not zero, at strictly rising offsets. -/
structure MemoryPort where
  mem : List Host.Cell
  /-- RUN of the shelf control register (R7). -/
  run : Bool
  /-- INTERRUPT ENABLE of the shelf control register (R7). -/
  interruptEnable : Bool
  /-- The sticky *write discarded* flag (R8). -/
  writeDiscarded : Bool
  /-- The sticky *parameters adjusted* flag (R8). -/
  parametersAdjusted : Bool
  /-- The data lines as the last read of the status or the attention register drove them (R1, R8, R143). -/
  readData : Word
  deriving DecidableEq, Repr

/-- Shelf Control (R14, R20). -/
structure ShelfControl where
  shelf : ShelfState
  /-- The shelf time at which STARTING ends, while STARTING (R17). -/
  startingEnd : Option Nat
  params : Params
  generationTaken : Byte
  /-- Bit p for profile p (R20). -/
  profileAdjusted : BitVec 8
  /-- Bit c for code c (R20). -/
  codeAdjusted : BitVec 16
  deriving DecidableEq, Repr

/-- A card slot of the Line Scanner (R27). -/
structure CardSlot where
  /-- The presence input, `true` for seated. -/
  seated : Bool
  presence : Presence
  /-- The debounce deadline, a shelf time. -/
  deadline : Option Nat
  deriving DecidableEq, Repr

/-! ### A line -/

/-- Supervision state, in the order of its codes (chapter 6, Layouts). -/
inductive LineState where
  | outOfService | learning | idle | seizing | dialTone | dialing | inCall | cleardown | howler
  | lockout | ringWait | ringing | ringGuard | testing
  deriving DecidableEq, Repr

/-- A hook state (R35). -/
inductive Hook where
  | opened | closed
  deriving DecidableEq, Repr

/-- The Loop Classifier's state for a line, with break and make timing's indices (R35, R52). -/
structure Classifier where
  baseline : Nat
  raw : Hook
  confirmed : Hook
  runCount : Nat
  runStart : Option (BitVec 32)
  /-- k0. -/
  breakStart : Option (BitVec 32)
  /-- m0. -/
  makeStart : Option (BitVec 32)
  /-- The glitch bridge marker. -/
  bridge : Option (BitVec 32)
  tripCount : Nat
  learnCount : Nat
  learnMin : Nat
  leakageHigh : Bool
  deriving DecidableEq, Repr

/-- A party entry of the working configuration (R66). -/
structure Party where
  code : Fin 16
  load : Nat
  lead : Lead
  deriving DecidableEq, Repr

/-- The kind of a supervision deadline (R66, R67). -/
inductive DeadlineKind where
  | fdt | pdt | cdt | how
  deriving DecidableEq, Repr

/-- The eviction mark: the frame boundary's shelf time and the rank (R101). -/
structure EvictionMark where
  time : Nat
  rank : Nat
  deriving DecidableEq, Repr

/-- Why a line in RING GUARD is to join the wait list (R103). -/
inductive Joining where
  | evicted (mark : EvictionMark)
  | noRoom
  deriving DecidableEq, Repr

/-- The exit target of a guard (R103).  The party and max frames that the wait entry is to carry
(R101, R111) are kept with the target. -/
inductive ExitTarget where
  | inCall
  | idle
  | ringWait (joining : Joining) (party : Fin 4) (maxFrames : Nat)
  deriving DecidableEq, Repr

/-- The guard record of a line in RING GUARD (R103). -/
structure GuardRecord where
  guardEnd : Option Instant
  target : ExitTarget
  deriving DecidableEq, Repr

/-- The Line Supervisor's state for a line (R66, R103). -/
structure Supervision where
  state : LineState
  /-- The profile index, shown as profile in use. -/
  profile : Fin 8
  parties : Vector Party 4
  pulseCount : Nat
  errorSkip : Bool
  /-- The supervision deadline: its kind and a 32-bit shelf time (R67). -/
  deadline : Option (DeadlineKind × BitVec 32)
  guardRecord : Option GuardRecord
  deriving DecidableEq, Repr

/-- A pending ring action (R129). -/
inductive RingAction where
  | none
  | operate (lead : Lead)
  | release
  deriving DecidableEq, Repr

/-- A tone selection (R129). -/
inductive Tone where
  | none | dial | busy | howler
  deriving DecidableEq, Repr

/-- The line test record (R137). -/
structure TestRecord where
  settleEnd : Instant
  count : Nat
  sum : Nat
  deriving DecidableEq, Repr

/-- The Relay Driver's state for a line (R129).  `ringRelay` is `none` for RELEASED. -/
structure RelayRecord where
  ringRelay : Option Lead
  pending : RingAction
  tone : Tone
  testRelay : Bool
  windowEnd : Option Instant
  test : Option TestRecord
  deriving DecidableEq, Repr

/-- A report entry, as its eight bytes hold it (Layouts, Report entry). -/
structure ReportEntry where
  kind : Byte
  detail : Byte
  value : Word
  time : Word
  droppedBefore : Byte
  stateAfter : Byte
  deriving DecidableEq, Repr

/-- The Report Writer's state for a line (R139), and the eight entries of the report list. -/
structure Reckoning where
  written : Byte
  /-- The taken count last read. -/
  taken : Byte
  dropped : Byte
  countFault : Bool
  attention : Bool
  entries : Vector ReportEntry 8
  deriving DecidableEq, Repr

/-- The outcome of an order (Layouts, Outcome codes). -/
inductive OrderOutcome where
  | accepted | acceptedAdjusted | refusedState | refusedField | refusedCapacity | refusedNoCard
  | refusedBadKind
  deriving DecidableEq, Repr

/-- Everything the part keeps for one line. -/
structure Line where
  /-- The sample index (R25). -/
  sampleIndex : BitVec 32
  /-- The taken sequence of Order Intake (R10). -/
  takenSeq : Byte
  /-- The last order outcome (R13). -/
  lastOutcome : Option OrderOutcome
  cls : Classifier
  sup : Supervision
  rel : RelayRecord
  rep : Reckoning
  deriving DecidableEq, Repr

/-! ### Ringing -/

/-- Where a pending change came from (R103). -/
inductive ChangeOrigin where
  | order | reload
  deriving DecidableEq, Repr

/-- A pending change of a booking (R93, R103). -/
structure PendingChange where
  party : Fin 4
  maxFrames : Nat
  origin : ChangeOrigin
  deriving DecidableEq, Repr

/-- An entry of the booking list (R93). -/
structure Booking where
  line : LineNo
  party : Fin 4
  rotation : FrameSlot
  mask : Mask
  load : Nat
  framesRung : Nat
  maxFrames : Nat
  firstBurst : Bool
  change : Option PendingChange
  deriving DecidableEq, Repr

/-- An entry of the wait list (R104). -/
structure WaitEntry where
  line : LineNo
  party : Fin 4
  maxFrames : Nat
  framesWaited : Nat
  blocking : Bool
  mark : Option EvictionMark
  deriving DecidableEq, Repr

/-- The Ring Scheduler (R91, R92, R93, R104).  `nextBoundary` is `none` while the slot clock stands;
the booking list is oldest first, the wait list head first. -/
structure Scheduler where
  slot : FrameSlot
  nextBoundary : Option Nat
  loads : Vector Nat 12
  bookings : List Booking
  waits : List WaitEntry
  deriving DecidableEq, Repr

/-- The Ring Source Monitor (R122). -/
structure SourceMonitor where
  state : SourceState
  goodCount : Nat
  lastCrossing : Option Instant
  lossDeadline : Option Instant
  deriving DecidableEq, Repr

/-- The setting of a line's three switching elements, which a relay word carries whole (R130). -/
structure RelaySetting where
  ringRelay : Option Lead
  tone : Tone
  testRelay : Bool
  deriving DecidableEq, Repr

/-- A relay word: the line it names and its whole present setting (R130). -/
structure RelayWord where
  line : LineNo
  setting : RelaySetting
  deriving DecidableEq, Repr

/-! ### The whole part -/

/-- The state of the part, and the queue of the commands that are waiting. -/
structure State where
  port : MemoryPort
  control : ShelfControl
  /-- The visit pointer of Order Intake (R10). -/
  visitPointer : LineNo
  slots : Vector CardSlot 8
  lines : Vector Line 64
  sched : Scheduler
  source : SourceMonitor
  /-- The attention latch (R143). -/
  latch : Option LineNo
  /-- The relay words sent on the line card bus since power-on, the newest first (R130). -/
  sent : List RelayWord
  /-- Shelf time: milliseconds since power-on (Units and conventions, R4). -/
  shelfTime : Nat
  /-- The commands that are waiting, first in first out. -/
  pending : List Instr
  deriving DecidableEq, Repr

/-- Why the part stops with a fault: never.  The bus has no error response and every access completes
(R1), and every event that finds nothing to do leaves the state as it is, so this type is empty. -/
inductive Fault
  deriving DecidableEq, Repr

/-- Why a command has no meaning. -/
inductive Refusal where
  /-- Raised by `exec` alone, for a row of the opcode table that has no meaning yet; safe. No row is
  left in that state. -/
  | notModelled (mnemonic : String)
  deriving DecidableEq, Repr

/-! ### After power-on -/

/-- A party entry of the zero configuration (R15). -/
def Party.zero : Party := { code := 0, load := 0, lead := .a }

/-- An empty report entry: eight zero bytes. -/
def ReportEntry.zero : ReportEntry :=
  { kind := 0, detail := 0, value := 0, time := 0, droppedBefore := 0, stateAfter := 0 }

/-- A line after power-on (R15, R36, R66, R129, R139). -/
def Line.powerOn : Line :=
  { sampleIndex := 0, takenSeq := 0, lastOutcome := none,
    cls := { baseline := 0, raw := .opened, confirmed := .opened, runCount := 0, runStart := none,
             breakStart := none, makeStart := none, bridge := none, tripCount := 0, learnCount := 0,
             learnMin := 255, leakageHigh := false },
    sup := { state := .outOfService, profile := 0, parties := Vector.replicate 4 .zero,
             pulseCount := 0, errorSkip := false, deadline := none, guardRecord := none },
    rel := { ringRelay := none, pending := .none, tone := .none, testRelay := false,
             windowEnd := none, test := none },
    rep := { written := 0, taken := 0, dropped := 0, countFault := false, attention := false,
             entries := Vector.replicate 8 .zero } }

/-- The setting with every element released and no tone (R130, R33). -/
def RelaySetting.released : RelaySetting :=
  { ringRelay := none, tone := .none, testRelay := false }

/-- A card slot after power-on: PRESENT, and with its loss interval begun if its input shows *not
seated* (R28). -/
def CardSlot.powerOn (seated : Bool) : CardSlot :=
  { seated := seated, presence := .present,
    deadline := if seated then none else some Config.lossMs }

/-- The part right after power-on with the given presence inputs (R15, R28); every line has been sent
its released word (R130), line 0 first. -/
def State.powerOn (seated : Byte) : State :=
  { port := { mem := [], run := false, interruptEnable := false, writeDiscarded := false,
              parametersAdjusted := false, readData := 0 },
    control := { shelf := .halted, startingEnd := none, params := .fromZero, generationTaken := 0,
                 profileAdjusted := 0, codeAdjusted := 0 },
    visitPointer := 0,
    slots := Vector.ofFn fun c : CardNo => CardSlot.powerOn (seated.getLsbD c.val),
    lines := Vector.replicate 64 .powerOn,
    sched := { slot := 0, nextBoundary := none, loads := Vector.replicate 12 0, bookings := [],
               waits := [] },
    source := { state := .absent, goodCount := 0, lastCrossing := none, lossDeadline := none },
    latch := none,
    sent := (List.finRange 64).reverse.map fun n => { line := n, setting := .released },
    shelfTime := 0,
    pending := [] }

/-- The machine right after reset: power-on, with the presence inputs of log 2 and an empty queue. -/
def State.reset : State := State.powerOn Config.seatedAtReset

end Sys2Proof.Machine
end

