-- ==== Sys2Proof/Machine/Ops.lean ====
section
/-! DEFINITION. The operations that every block shares: the work memory's bytes, a line and its relay
words, appending a report, time, and the two ring lists with the slot load table. -/

namespace Sys2Proof.Machine

/-! ### Host-owned bytes (R2) -/

/-- The host-owned bytes that are not zero, at strictly rising offsets. -/
abbrev Memory := List Host.Cell

/-- What an unlisted byte reads: zero, as power-on leaves every byte (R2). -/
def Memory.unlisted : Byte := 0

/-- The byte at `off`. -/
def Memory.read : Memory → Nat → Byte
  | [], _ => Memory.unlisted
  | (a, b) :: m, off => if a = off then b else Memory.read m off

/-- Store `v` at `off`, keeping the canonical form: a byte that becomes what an unlisted byte reads
leaves the list. -/
def Memory.write : Memory → Nat → Byte → Memory
  | [], off, v => if v = Memory.unlisted then [] else [(off, v)]
  | (a, b) :: m, off, v =>
    if off < a then if v = Memory.unlisted then (a, b) :: m else (off, v) :: (a, b) :: m
    else if off = a then if v = Memory.unlisted then m else (a, v) :: m
    else (a, b) :: Memory.write m off v

/-- The canonical form: offsets strictly rising, and no listed byte equal to what an unlisted one
reads. -/
def Memory.wf : Memory → Bool
  | [] => true
  | (a, b) :: m => b ≠ Memory.unlisted && m.all (fun c => decide (a < c.1)) && Memory.wf m

/-- The owner of a work memory byte (R2, work memory map, line record): `true` for host-owned. -/
def hostOwned (off : Nat) : Bool :=
  if off < 0x100 then false
  else if off < 0x800 then true
  else decide (off < 0x2800) && decide ((off - 0x800) % 128 < 0x20)

/-- The offset of line n's record (work memory map). -/
def recordBase (n : LineNo) : Nat := 0x800 + 128 * n.val

/-- A host-owned byte as the part reads it (R2). -/
def State.hostByte (s : State) (off : Nat) : Byte := Memory.read s.port.mem off

/-- A host-owned 16-bit field, low byte first (section 1.1). -/
def State.hostWord (s : State) (off : Nat) : Word := joinBytes (s.hostByte (off + 1)) (s.hostByte off)

/-- R1, R2: a shelf-processor write in the work memory.  Host-owned bytes take the enabled bytes; a
write to a part-owned word is discarded and sets *write discarded*.  A write with no byte enabled
writes nothing (log 16), and one outside the work memory is no write of this kind. -/
def State.writeWorkMemory (s : State) (w : BusWrite) : State :=
  if !w.inWorkMemory || (!w.low && !w.high) then s
  else if hostOwned w.offset then
    let m := if w.low then Memory.write s.port.mem w.offset (lowByte w.data) else s.port.mem
    let m := if w.high then Memory.write m (w.offset + 1) (highByte w.data) else m
    { s with port.mem := m }
  else { s with port.writeDiscarded := true }

/-- R3: shelf-processor writes that land one after the other. -/
def State.writes (s : State) (w : List BusWrite) : State := w.foldl State.writeWorkMemory s

/-- The writes that would meet a load or a consistent read, where none is made: they land all the same. -/
def State.landed (s : State) (early late : List BusWrite) : State := (s.writes early).writes late

/-! ### Time (Units and conventions) -/

/-- The instant `us` microseconds into the current millisecond of shelf time. -/
def State.instantAt (s : State) (us : Fin 1000) : Instant :=
  s.shelfTime * Config.ticksPerMs + us.val * Config.ticksPerUs

/-- R24: the instant of line n's read in the current millisecond: a multiple of 31.25 µs after it
begins, since line n is read n × 31.25 µs after the scan period begins. -/
def State.arrivalInstant (s : State) (n : LineNo) : Instant :=
  s.shelfTime * Config.ticksPerMs + (n.val % 32) * Config.readStep

/-- The instant `ms` milliseconds after `t`. -/
def laterBy (t : Instant) (ms : Nat) : Instant := t + ms * Config.ticksPerMs

/-- Shelf time as a 32-bit field (R4, R67). -/
def State.time32 (s : State) : BitVec 32 := BitVec.ofNat 32 s.shelfTime

/-- Shelf time modulo 65,536 (R4): the shelf time register and the report time stamp. -/
def State.time16 (s : State) : Word := BitVec.ofNat 16 s.shelfTime

/-! ### Lines, cards and relay words -/

/-- Line n's card slot, ⌊n / 8⌋ (The part on its shelf). -/
def cardOf (n : LineNo) : CardNo := ⟨n.val / 8, by omega⟩

/-- Line n. -/
def State.line (s : State) (n : LineNo) : Line := s.lines[n]

/-- R34: line n's card is present when its slot's presence state is PRESENT. -/
def State.cardPresent (s : State) (n : LineNo) : Bool :=
  decide (s.slots[cardOf n].presence = .present)

/-- The profile in use of a line, from the working parameters. -/
def State.profileOf (s : State) (n : LineNo) : Profile :=
  s.control.params.profiles[(s.line n).sup.profile]

/-- The line's whole present relay setting (R130). -/
def Line.setting (l : Line) : RelaySetting :=
  { ringRelay := l.rel.ringRelay, tone := l.rel.tone, testRelay := l.rel.testRelay }

/-- R130: the relay words that a change of line n from `l` to `l'` sends: one, if its setting changed
and its card is present. -/
def relayWords (present : Bool) (n : LineNo) (l l' : Line) : List RelayWord :=
  if present && decide (l.setting ≠ l'.setting) then [{ line := n, setting := l'.setting }] else []

/-- Change one line, and send its relay word where its setting changes (R130). -/
def State.updLine (s : State) (n : LineNo) (f : Line → Line) : State :=
  { s with
    lines := s.lines.set n (f (s.line n))
    sent := relayWords (s.cardPresent n) n (s.line n) (f (s.line n)) ++ s.sent }

/-- Change every line, each by its own function, and send the relay words of those whose setting
changes, the lowest line first (R130; log 10 for the order). -/
def State.mapLines (s : State) (g : LineNo → Line → Line) : State :=
  { s with
    lines := Vector.ofFn fun n => g n (s.line n)
    sent := (List.finRange 64).reverse.flatMap
        (fun n => relayWords (s.cardPresent n) n (s.line n) (g n (s.line n))) ++ s.sent }

/-! ### Reports (R140, R142) -/

/-- Break classes (R56). -/
inductive BreakClass where
  | glitch | pulse | gap | flash | clear
  deriving DecidableEq, Repr

/-- How a called line answered (Layouts, ANSWER). -/
inductive AnswerKind where
  | beforeRing | inBurst | inSilence
  deriving DecidableEq, Repr

/-- Why a party joined the wait list (Layouts, RING QUEUED). -/
inductive QueueCause where
  | noRoom | sourceDown | evicted
  deriving DecidableEq, Repr

/-- The outcome of a line test (Layouts, TEST RESULT). -/
inductive TestOutcome where
  | pass | failLow | failHigh | abandoned
  deriving DecidableEq, Repr

/-- A report, with what its detail and value tell (Layouts, Report entry; section 11.1). -/
inductive Report where
  | order (outcome : OrderOutcome) (kind seq : Byte)
  | seize
  | digit (value : Nat)
  | dialErrorGapBreak
  | dialErrorTooManyPulses
  | flash (length : Nat)
  | clear (left : LineState)
  | answer (how : AnswerKind) (frames : Nat)
  | ringEndNoAnswer (frames : Nat)
  | ringEndWaitLimit
  | ringQueued (cause : QueueCause) (position : Nat)
  | ringBooked (boundaries : Nat) (rotation : FrameSlot)
  | timeout (kind : DeadlineKind)
  | leakageHigh (l : Nat)
  | leakageNormal (l : Nat)
  | cardLost
  | cardBack
  | testResult (outcome : TestOutcome) (measure : Nat)
  deriving DecidableEq, Repr

/-- The code of a supervision state (Layouts). -/
def LineState.code : LineState → Nat
  | .outOfService => 0
  | .learning => 1
  | .idle => 2
  | .seizing => 3
  | .dialTone => 4
  | .dialing => 5
  | .inCall => 6
  | .cleardown => 7
  | .howler => 8
  | .lockout => 9
  | .ringWait => 10
  | .ringing => 11
  | .ringGuard => 12
  | .testing => 13

/-- The code of an order outcome (Layouts). -/
def OrderOutcome.code : OrderOutcome → Nat
  | .accepted => 1
  | .acceptedAdjusted => 2
  | .refusedState => 3
  | .refusedField => 4
  | .refusedCapacity => 5
  | .refusedNoCard => 6
  | .refusedBadKind => 7

/-- The report kind code (Layouts, Report entry). -/
def Report.kind : Report → Nat
  | .order .. => 0
  | .seize => 1
  | .digit _ => 2
  | .dialErrorGapBreak => 3
  | .dialErrorTooManyPulses => 3
  | .flash _ => 4
  | .clear _ => 5
  | .answer .. => 6
  | .ringEndNoAnswer _ => 7
  | .ringEndWaitLimit => 7
  | .ringQueued .. => 8
  | .ringBooked .. => 9
  | .timeout _ => 10
  | .leakageHigh _ => 11
  | .leakageNormal _ => 11
  | .cardLost => 12
  | .cardBack => 12
  | .testResult .. => 13

/-- The detail code (Layouts, Report entry). -/
def Report.detail : Report → Nat
  | .order outcome _ _ => outcome.code
  | .seize => 0
  | .digit _ => 0
  | .dialErrorGapBreak => 1
  | .dialErrorTooManyPulses => 2
  | .flash _ => 0
  | .clear _ => 0
  | .answer .beforeRing _ => 1
  | .answer .inBurst _ => 2
  | .answer .inSilence _ => 3
  | .ringEndNoAnswer _ => 1
  | .ringEndWaitLimit => 2
  | .ringQueued .noRoom _ => 1
  | .ringQueued .sourceDown _ => 2
  | .ringQueued .evicted _ => 3
  | .ringBooked boundaries _ => boundaries
  | .timeout .fdt => 1
  | .timeout .pdt => 2
  | .timeout .cdt => 3
  | .timeout .how => 4
  | .leakageHigh _ => 1
  | .leakageNormal _ => 2
  | .cardLost => 1
  | .cardBack => 2
  | .testResult .pass _ => 1
  | .testResult .failLow _ => 2
  | .testResult .failHigh _ => 3
  | .testResult .abandoned _ => 4

/-- The value (Layouts, Report entry). -/
def Report.value : Report → Nat
  | .order _ kind seq => kind.toNat * 256 + seq.toNat
  | .seize => 0
  | .digit v => v
  | .dialErrorGapBreak => 0
  | .dialErrorTooManyPulses => 0
  | .flash length => length
  | .clear left => left.code
  | .answer _ frames => frames
  | .ringEndNoAnswer frames => frames
  | .ringEndWaitLimit => 0
  | .ringQueued _ position => position
  | .ringBooked _ rotation => rotation.val
  | .timeout _ => 0
  | .leakageHigh l => l
  | .leakageNormal l => l
  | .cardLost => 0
  | .cardBack => 0
  | .testResult _ measure => measure

/-- The entry that a report appends (R140; Layouts, Report entry). -/
def Report.entry (r : Report) (time : Nat) (dropped : Byte) (after : LineState) : ReportEntry :=
  { kind := BitVec.ofNat 8 r.kind, detail := BitVec.ofNat 8 r.detail,
    value := BitVec.ofNat 16 r.value, time := BitVec.ofNat 16 time, droppedBefore := dropped,
    stateAfter := BitVec.ofNat 8 after.code }

/-- (written count − taken count last read) mod 256 (R140, R141). -/
def Reckoning.pending (r : Reckoning) : Nat := (r.written - r.taken).toNat

/-- R142: a kind is quiet when its bit in the quiet mask in force is set. -/
def Report.quiet (r : Report) (p : Params) : Bool := p.quietMask.getLsbD r.kind

/-- R140: write an entry at written count mod 8, with the dropped counter, and advance the count. -/
def Reckoning.write (k : Reckoning) (r : Report) (time : Nat) (after : LineState) : Reckoning :=
  { k with
    entries := k.entries.set (k.written.toNat % 8) (r.entry time k.dropped after)
      (Nat.mod_lt _ (by decide))
    dropped := 0
    written := k.written + 1 }

/-- R140: a full list drops the report and counts it, stopping at 255. -/
def Reckoning.drop (k : Reckoning) : Reckoning :=
  { k with dropped := if k.dropped = 255 then 255 else k.dropped + 1 }

/-- R140, R142: append a report to a line's reckoning: a pending count above 8 is a count fault and is
treated as 0, one of 8 drops the report, and one below 8 writes it; a report that is not quiet then
sets the attention bit. -/
def Reckoning.append (k : Reckoning) (p : Params) (time : Nat) (r : Report) (after : LineState) :
    Reckoning :=
  let k' :=
    if Config.listDepth < k.pending then { k.write r time after with countFault := true }
    else if k.pending = Config.listDepth then k.drop
    else k.write r time after
  { k' with attention := k'.attention || !r.quiet p }

/-- Append a report to a line, with `after` as its state after. -/
def Line.append (l : Line) (p : Params) (time : Nat) (r : Report) (after : LineState) : Line :=
  { l with rep := l.rep.append p time r after }

/-- Append a report to line n in the current operation; its state after is the line's supervision
state as it now stands (R68, R140). -/
def State.report (s : State) (n : LineNo) (r : Report) : State :=
  s.updLine n fun l => l.append s.control.params s.shelfTime r l.sup.state

/-! ### The ring lists and the slot load table (R92, R93, R94, R104) -/

/-- Does a mask at rotation r ring in slot k: mark (k − r) mod 12 (R92)? -/
def ringsIn (m : Mask) (r k : FrameSlot) : Bool := m[k - r]

/-- What a booking contributes to slot k (R92). -/
def Booking.contribution (b : Booking) (k : FrameSlot) : Nat :=
  if ringsIn b.mask b.rotation k then b.load else 0

/-- R94: the slot loads with a booking's load added. -/
def addLoad (loads : Vector Nat 12) (b : Booking) : Vector Nat 12 :=
  Vector.ofFn fun k : FrameSlot => loads[k] + b.contribution k

/-- R94: the slot loads with a booking's load subtracted. -/
def subLoad (loads : Vector Nat 12) (b : Booking) : Vector Nat 12 :=
  Vector.ofFn fun k : FrameSlot => loads[k] - b.contribution k

/-- R96: a party with load `w` and mask `m` fits at rotation r against the slot loads and capacity. -/
def fits (loads : Vector Nat 12) (capacity : Nat) (m : Mask) (w : Nat) (r : FrameSlot) : Bool :=
  (List.finRange 12).all fun k => !ringsIn m r k || decide (loads[k] + w ≤ capacity)

/-- The first rotation at which a party fits, tried from `start` round the frame: the intake search
starts at c + 1 (R97), the walk search at c (R98). -/
def searchFrom (loads : Vector Nat 12) (capacity : Nat) (m : Mask) (w : Nat) (start : FrameSlot) :
    Option FrameSlot :=
  ((List.finRange 12).map (start + ·)).find? (fits loads capacity m w)

/-- The booking of line n, if it has one (R93). -/
def State.bookingOf (s : State) (n : LineNo) : Option Booking :=
  s.sched.bookings.find? (fun b => b.line = n)

/-- The wait entry of line n, if it has one (R104). -/
def State.waitOf (s : State) (n : LineNo) : Option WaitEntry :=
  s.sched.waits.find? (fun e => e.line = n)

/-- The wait position of line n: its place from the head, starting at 1, or 0 (R104). -/
def waitPosition : List WaitEntry → LineNo → Nat
  | [], _ => 0
  | e :: w, n => if e.line = n then 1 else if waitPosition w n = 0 then 0 else waitPosition w n + 1

/-- R94: add a booking at the tail of the booking list. -/
def State.addBooking (s : State) (b : Booking) : State :=
  { s with
    sched.bookings := s.sched.bookings ++ [b]
    sched.loads := addLoad s.sched.loads b }

/-- R94: remove the bookings of the lines that `p` picks, with their loads. -/
def State.dropBookings (s : State) (p : LineNo → Bool) : State :=
  { s with
    sched.bookings := s.sched.bookings.filter fun b => !p b.line
    sched.loads := (s.sched.bookings.filter fun b => p b.line).foldl subLoad s.sched.loads }

/-- R104: remove the wait entries of the lines that `p` picks; the entries behind move up. -/
def State.dropWaits (s : State) (p : LineNo → Bool) : State :=
  { s with sched.waits := s.sched.waits.filter fun e => !p e.line }

/-- Change line n's booking in place; its mask, rotation and load are not the change's to touch. -/
def State.updBooking (s : State) (n : LineNo) (f : Booking → Booking) : State :=
  { s with sched.bookings := s.sched.bookings.map fun b => if b.line = n then f b else b }

/-- The mask of a party of line n, from the working parameters in force (R90). -/
def State.maskOf (s : State) (n : LineNo) (p : Fin 4) : Mask :=
  s.control.params.masks[(s.line n).sup.parties[p].code]

/-- The load of a party of line n, from its working configuration (R95). -/
def State.loadOf (s : State) (n : LineNo) (p : Fin 4) : Nat := (s.line n).sup.parties[p].load

/-- A new booking: frames rung 0, first burst not yet, no pending change, the mask and load as they
stand (R93). -/
def State.newBooking (s : State) (n : LineNo) (p : Fin 4) (r : FrameSlot) (maxFrames : Nat) :
    Booking :=
  { line := n, party := p, rotation := r, mask := s.maskOf n p, load := s.loadOf n p,
    framesRung := 0, maxFrames := maxFrames, firstBurst := false, change := none }

/-- A new wait entry: frames waited 0, blocking flag clear (R104). -/
def newWait (n : LineNo) (p : Fin 4) (maxFrames : Nat) (mark : Option EvictionMark) : WaitEntry :=
  { line := n, party := p, maxFrames := maxFrames, framesWaited := 0, blocking := false,
    mark := mark }

/-- Search the frame from `start` for party p of line n, against the table and capacity in force
(R96). -/
def State.search (s : State) (n : LineNo) (p : Fin 4) (start : FrameSlot) : Option FrameSlot :=
  searchFrom s.sched.loads s.control.params.capacity (s.maskOf n p) (s.loadOf n p) start

/-- R106, R111: join the wait list at the tail. -/
def State.joinTail (s : State) (e : WaitEntry) : State :=
  { s with sched.waits := s.sched.waits ++ [e] }

/-- R102: place `e` immediately behind the last entry that `p` picks, if there is one. -/
def insertBehindLast (p : WaitEntry → Bool) (e : WaitEntry) : List WaitEntry → Option (List WaitEntry)
  | [] => none
  | x :: w =>
    match insertBehindLast p e w with
    | some w' => some (x :: w')
    | none => if p x then some (x :: e :: w) else none

/-- R102: an entry `x` of the same batch as `mark`, of a lower rank. -/
def EvictionMark.behind (mark : EvictionMark) (x : WaitEntry) : Bool :=
  match x.mark with
  | some m => decide (m.time = mark.time) && decide (m.rank < mark.rank)
  | none => false

/-- R102: an evicted line joins behind the last entry of its batch with a lower rank, or else at the
head. -/
def State.joinEvicted (s : State) (e : WaitEntry) (mark : EvictionMark) : State :=
  { s with
    sched.waits := (insertBehindLast mark.behind e s.sched.waits).getD (e :: s.sched.waits) }

end Sys2Proof.Machine
end

