-- ==== Sys2Proof/Machine/Operands.lean ====
section
/-! DEFINITION. What the part reads from the host-owned areas: a line's mailbox, taken count and
configuration bytes, and the records of the parameter block, each by its place in the layouts of
spec/01 (R5, R6, R11, R88). -/

namespace Sys2Proof.Machine

/-- The mailbox sequence of line n (R11). -/
def State.mailSequence (s : State) (n : LineNo) : Byte := s.hostByte (recordBase n + 0x10)

/-- The taken count of line n (R10, R19). -/
def State.takenCount (s : State) (n : LineNo) : Byte := s.hostByte (recordBase n + 0x18)

/-- The configuration bytes of line n (R83): the profile index, and party p's three bytes at
0x01 + 3p. -/
def State.configBytes (s : State) (n : LineNo) : ConfigBytes :=
  { profile := s.hostByte (recordBase n)
    parties := Vector.ofFn fun p : Fin 4 =>
      { code := s.hostByte (recordBase n + 0x01 + 3 * p.val)
        load := s.hostByte (recordBase n + 0x02 + 3 * p.val)
        lead := s.hostByte (recordBase n + 0x03 + 3 * p.val) } }

/-- An order with the fields its kind uses (R12). -/
inductive Order where
  | note
  | service (value : Byte)
  | configure (bytes : ConfigBytes)
  | ring (party maxFrames : Byte)
  | stop
  | connect
  | release (tone : Byte)
  | test
  | badKind (kind : Byte)
  deriving DecidableEq, Repr

/-- The kind code of an order, as read (R12, R13). -/
def Order.kind : Order → Byte
  | .note => 0
  | .service _ => 1
  | .configure _ => 2
  | .ring .. => 3
  | .stop => 4
  | .connect => 5
  | .release _ => 6
  | .test => 7
  | .badKind k => k

/-- The second step of the consistent read: the mailbox fields, and the configuration bytes if the
kind is CONFIGURE (R11, R12). -/
def State.mailOrder (s : State) (n : LineNo) : Order :=
  let field (off : Nat) : Byte := s.hostByte (recordBase n + off)
  match (field 0x11).toNat with
  | 0 => .note
  | 1 => .service (field 0x15)
  | 2 => .configure (s.configBytes n)
  | 3 => .ring (field 0x12) (field 0x13)
  | 4 => .stop
  | 5 => .connect
  | 6 => .release (field 0x14)
  | 7 => .test
  | _ => .badKind (field 0x11)

/-- The generation field of the general parameters (R20, R22). -/
def State.generationField (s : State) : Byte := s.hostByte 0x100

/-- A profile record of the block as written: sixteen 16-bit fields at 0x0140 + 32p (Layouts). -/
def State.rawProfile (s : State) (p : Fin 8) : Profile :=
  let field (off : Nat) : Nat := (s.hostWord (0x140 + 32 * p.val + off)).toNat
  { d := field 0x00, sq := field 0x02, pbMin := field 0x04, pbMax := field 0x06,
    flMin := field 0x08, flMax := field 0x0A, idt := field 0x0C, fdt := field 0x0E,
    cdt := field 0x10, how := field 0x12, mc := field 0x14, mo := field 0x16,
    mt := field 0x18, ll := field 0x1A, tripConfirm := field 0x1C, pdt := field 0x1E }

/-- A ring code record as written (R88): the pair count and the four pairs of on and off lengths. -/
structure RawCode where
  count : Nat
  pairs : List (Nat × Nat)
  deriving DecidableEq, Repr

/-- Ring code c of the block, at 0x0240 + 16c; its unused bytes are not looked at (R88). -/
def State.rawCode (s : State) (c : Fin 16) : RawCode :=
  let field (off : Nat) : Nat := (s.hostByte (0x240 + 16 * c.val + off)).toNat
  { count := field 0
    pairs := [(field 1, field 2), (field 3, field 4), (field 5, field 6), (field 7, field 8)] }

/-- The general parameters as written, but for the generation (Layouts, General parameters).  The quiet
mask is kept whole here, so that ignoring its bits 14 and 15 is no adjustment (R21). -/
structure RawGeneral where
  tripMode : Nat
  capacity : Nat
  guardTime : Nat
  halfPeriod : Nat
  waitLimit : Nat
  priorityAge : Nat
  quietMask : Word
  testLow : Nat
  testHigh : Nat
  deriving DecidableEq, Repr

/-- The general parameters of the block. -/
def State.rawGeneral (s : State) : RawGeneral :=
  { tripMode := (s.hostByte 0x101).toNat
    capacity := (s.hostWord 0x102).toNat
    guardTime := (s.hostWord 0x104).toNat
    halfPeriod := (s.hostWord 0x106).toNat
    waitLimit := (s.hostByte 0x108).toNat
    priorityAge := (s.hostByte 0x109).toNat
    quietMask := s.hostWord 0x10A
    testLow := (s.hostByte 0x10C).toNat
    testHigh := (s.hostByte 0x10D).toNat }

end Sys2Proof.Machine
end

