-- ==== Sys2Proof/Machine/Params.lean ====
section
/-! DEFINITION. The parameter load of Shelf Control (R20, R21): clamping, the ordering adjustments
(R50, R51, R64, R65, R87), and the compilation of ring codes (R89). -/

namespace Sys2Proof.Machine

/-- A value below the range becomes the least value, one above it the greatest (R21). -/
def clamp (least greatest v : Nat) : Nat := max least (min greatest v)

/-- An odd value is rounded down to the even value below it (R21, R64). -/
def roundEven (v : Nat) : Nat := v - v % 2

/-- R50, R64, R87: every field clamped to its range, and the millisecond fields made even. -/
def Profile.clamped (p : Profile) : Profile :=
  { d := clamp 1 4 p.d
    sq := roundEven (clamp 10 400 p.sq)
    pbMin := roundEven (clamp 10 100 p.pbMin)
    pbMax := roundEven (clamp 20 150 p.pbMax)
    flMin := roundEven (clamp 60 1000 p.flMin)
    flMax := roundEven (clamp 100 2000 p.flMax)
    idt := roundEven (clamp 60 1000 p.idt)
    fdt := clamp 2 60 p.fdt
    cdt := clamp 2 120 p.cdt
    how := clamp 2 120 p.how
    mc := clamp 8 120 p.mc
    mo := clamp 4 116 p.mo
    mt := clamp 16 160 p.mt
    ll := clamp 8 120 p.ll
    tripConfirm := clamp 1 8 p.tripConfirm
    pdt := clamp 2 60 p.pdt }

/-- R65, R51: the five ordering adjustments in their fixed order. -/
def Profile.ordered (p : Profile) : Profile :=
  let p := { p with pbMax := max p.pbMax p.pbMin }
  let p := { p with flMin := max p.flMin (p.pbMax + 2) }
  let p := { p with flMax := max p.flMax (p.flMin + 2) }
  let p := { p with idt := max p.idt (p.pbMax + 2) }
  { p with mo := min p.mo (p.mc - 4) }

/-- Stage 3 of a load for one profile (R20). -/
def Profile.adjusted (p : Profile) : Profile := p.clamped.ordered

/-- Stage 2 of a load (R21).  The masks and profiles come from the later stages. -/
def RawGeneral.adjusted (g : RawGeneral) : RawGeneral :=
  { tripMode := if 1 < g.tripMode then 1 else g.tripMode
    capacity := clamp 0 1000 g.capacity
    guardTime := roundEven (clamp 10 200 g.guardTime)
    halfPeriod := clamp 5 40 g.halfPeriod
    waitLimit := clamp 1 20 g.waitLimit
    priorityAge := clamp 1 10 g.priorityAge
    quietMask := g.quietMask
    testLow := g.testLow
    testHigh := max g.testHigh g.testLow }

/-- R89, steps 1 and 2: the pair count clamped, and the lengths of the pairs in use. -/
def RawCode.clamped (c : RawCode) : RawCode :=
  let n := clamp 1 4 c.count
  { count := n
    pairs := (c.pairs.take n).map (fun q => (clamp 1 6 q.1, min 11 q.2)) ++ c.pairs.drop n }

/-- R89, step 3: the marks of the pairs in use, laid end to end. -/
def RawCode.marks (c : RawCode) : List Bool :=
  (c.pairs.take c.count).flatMap fun q => List.replicate q.1 true ++ List.replicate q.2 false

/-- R89: the mask a code compiles to; step 4 pads the marks with *off* or truncates them to twelve. -/
def RawCode.compile (c : RawCode) : Mask :=
  Vector.ofFn fun i : Fin 12 => c.clamped.marks.getD i.val false

/-- R89: compiling a code adjusts it when a clamp changes a value or the marks are truncated. -/
def RawCode.isAdjusted (c : RawCode) : Bool :=
  decide (c.clamped ≠ c) || decide (12 < c.clamped.marks.length)

/-- The map whose bit p says that profile p was adjusted (R20, stage 5). -/
def State.profileMap (s : State) : BitVec 8 :=
  BitVec.ofNat 8 (((List.finRange 8).map fun p : Fin 8 =>
    if (s.rawProfile p).adjusted ≠ s.rawProfile p then 2 ^ p.val else 0).sum)

/-- The map whose bit c says that code c was adjusted (R20, stage 5; R89). -/
def State.codeMap (s : State) : BitVec 16 :=
  BitVec.ofNat 16 (((List.finRange 16).map fun c : Fin 16 =>
    if (s.rawCode c).isAdjusted then 2 ^ c.val else 0).sum)

/-- Stages 1 to 4 of a load: the parameters that the block yields (R20). -/
def State.loadedParams (s : State) : Params :=
  let g := s.rawGeneral.adjusted
  { capacity := g.capacity
    tripMode := if g.tripMode = 0 then .immediate else .atCrossing
    guardTime := g.guardTime
    halfPeriod := g.halfPeriod
    waitLimit := g.waitLimit
    priorityAge := g.priorityAge
    quietMask := g.quietMask.setWidth 14
    testLow := g.testLow
    testHigh := g.testHigh
    profiles := Vector.ofFn fun p : Fin 8 => (s.rawProfile p).adjusted
    masks := Vector.ofFn fun c : Fin 16 => (s.rawCode c).compile }

/-- R20, stage 5: the load changes some value: a general parameter, a profile field or a ring code. -/
def State.loadAdjusts (s : State) : Bool :=
  decide (s.rawGeneral.adjusted ≠ s.rawGeneral) || decide (s.profileMap ≠ 0) ||
    decide (s.codeMap ≠ 0)

/-- R23, R104: the blocking flag of a wait entry, judged against a priority age. -/
def WaitEntry.judged (e : WaitEntry) (priorityAge : Nat) : WaitEntry :=
  { e with blocking := decide (priorityAge ≤ e.framesWaited) }

/-- R20, stages 1 to 6: the parameter load of the block as it stands.  The installed priority age is applied to every wait entry
(R23). -/
def State.loadParams (s : State) : State :=
  { s with
    control.params := s.loadedParams
    control.generationTaken := s.generationField
    control.profileAdjusted := s.profileMap
    control.codeAdjusted := s.codeMap
    port.parametersAdjusted := s.port.parametersAdjusted || s.loadAdjusts
    sched.waits := s.sched.waits.map fun e => e.judged s.loadedParams.priorityAge }

/-- R20: a parameter load that shelf-processor writes meet.  The writes `early` land during the read of
stage 1 before their words are read, and are taken; the writes `late` land after, and wait for a later
load (log 17). -/
def State.loadMeeting (s : State) (early late : List BusWrite) : State :=
  (s.writes early).loadParams.writes late

end Sys2Proof.Machine
end

