-- ==== Sys2Proof/Machine/Flags.lean ====
section
/-! DEFINITION. What the part shows: the status and attention words, the flags of a line, the attention
count and the interrupt output, and every byte of the window as the shelf processor reads it
(R1, R4, R6 to R9, R144). -/

namespace Sys2Proof.Machine

/-- Shelf state code (Shelf header). -/
def ShelfState.code : ShelfState → Nat
  | .halted => 0
  | .starting => 1
  | .running => 2

/-- Ring source state code (Shelf header). -/
def SourceState.code : SourceState → Nat
  | .absent => 0
  | .qualifying => 1
  | .running => 2
  | .failed => 3

/-- The number whose bit i is the i-th mark of the list. -/
def bitsValue : List Bool → Nat
  | [] => 0
  | b :: l => b.toNat + 2 * bitsValue l

/-- The leakage L = ⌊B / 16⌋ (R35). -/
def Classifier.leakage (c : Classifier) : Nat := c.baseline / 16

/-- The attention bit of line n (R139). -/
def State.attentionBit (s : State) (n : LineNo) : Bool := (s.line n).rep.attention

/-- R142: the attention count is the number of lines whose attention bit is set. -/
def State.attentionCount (s : State) : Nat := (List.finRange 64).countP s.attentionBit

/-- R144: the interrupt output is asserted while the attention count is above 0 and INTERRUPT ENABLE is
set. -/
def State.interruptAsserted (s : State) : Bool :=
  s.port.interruptEnable && decide (0 < s.attentionCount)

/-- The shelf control register: RUN, INTERRUPT ENABLE; SOFT RESET and the other bits read 0 (R7). -/
def State.controlWord (s : State) : Word :=
  BitVec.ofNat 16 (bitsValue [s.port.run, s.port.interruptEnable])

/-- The shelf status register (R8; Registers). -/
def State.statusWord (s : State) : Word :=
  BitVec.ofNat 16 (s.control.shelf.code + 4 * s.source.state.code
    + 16 * s.port.writeDiscarded.toNat + 32 * s.port.parametersAdjusted.toNat)

/-- The attention register, as a read returns it once the read has acted on the latch (R9, R143).  DESIGN
CHOICE (log 27), unsafe: bits 13 to 8 read 0 while the latch is empty; R9 gives that after power-on and says
no line number for a latch that has been emptied. -/
def State.attentionWord (s : State) : Word :=
  BitVec.ofNat 16 (s.attentionCount +
    match s.latch with
    | some n => 256 * n.val + 32768
    | none => 0)

/-- Byte `i` of the number `v`, the lowest first (section 1.1). -/
def byteAt (v i : Nat) : Byte := BitVec.ofNat 8 (v / 256 ^ i)

/-- A byte of the attention map: line 8i + j is bit j (Shelf header). -/
def State.attentionByte (s : State) (i : Fin 8) : Byte :=
  BitVec.ofNat 8 (bitsValue ((List.finRange 8).map fun j : Fin 8 =>
    s.attentionBit ⟨8 * i.val + j.val, by omega⟩))

/-- A byte of the shelf header (R4; Shelf header). -/
def State.headerByte (s : State) (off : Nat) : Byte :=
  if off = 0x00 then BitVec.ofNat 8 s.control.shelf.code
  else if off = 0x01 then BitVec.ofNat 8 s.source.state.code
  else if off = 0x02 then BitVec.ofNat 8 s.sched.slot.val
  else if off = 0x03 then s.control.generationTaken
  else if h : 0x04 ≤ off ∧ off < 0x1C then
    byteAt (s.sched.loads[(off - 0x04) / 2]'(by omega)) (off % 2)
  else if off = 0x1C then s.control.profileAdjusted
  else if off = 0x1E then lowByte s.control.codeAdjusted
  else if off = 0x1F then highByte s.control.codeAdjusted
  else if h : 0x20 ≤ off ∧ off < 0x28 then s.attentionByte ⟨off - 0x20, by omega⟩
  else if off = 0x28 then BitVec.ofNat 8 s.attentionCount
  else if off = 0x29 then BitVec.ofNat 8 s.sched.bookings.length
  else if off = 0x2A then BitVec.ofNat 8 s.sched.waits.length
  else if 0x2C ≤ off ∧ off < 0x30 then byteAt s.time32.toNat (off - 0x2C)
  else 0

/-- The flags byte of a line's status: leakage high, card absent, count fault, learning (Line record). -/
def State.lineFlags (s : State) (n : LineNo) : Byte :=
  BitVec.ofNat 8 (bitsValue [(s.line n).cls.leakageHigh, !s.cardPresent n,
    (s.line n).rep.countFault, decide ((s.line n).sup.state = .learning)])

/-- The ring party shown: that of the line's booking or wait entry, else 0 (R6). -/
def State.shownParty (s : State) (n : LineNo) : Nat :=
  match s.bookingOf n, s.waitOf n with
  | some b, _ => b.party.val
  | none, some e => e.party.val
  | none, none => 0

/-- A byte of a report entry (Report entry). -/
def ReportEntry.byte (e : ReportEntry) (i : Nat) : Byte :=
  match i with
  | 0 => e.kind
  | 1 => e.detail
  | 2 => lowByte e.value
  | 3 => highByte e.value
  | 4 => lowByte e.time
  | 5 => highByte e.time
  | 6 => e.droppedBefore
  | 7 => e.stateAfter
  | _ => 0

/-- A byte of the line status or the report list of line n, at offset `r` of its record (R6; Line
record).  DESIGN CHOICE (log 32), unsafe: rotation and frames rung (0x2A, 0x2B) read 0 with a wait entry, for
which R6, R93 and R104 give them no value. -/
def State.recordByte (s : State) (n : LineNo) (r : Nat) : Byte :=
  let l := s.line n
  if h : 0x40 ≤ r ∧ r < 0x80 then (l.rep.entries[(r - 0x40) / 8]'(by omega)).byte (r % 8)
  else
    match r with
    | 0x20 => BitVec.ofNat 8 l.sup.state.code
    | 0x21 => if l.cls.confirmed = .closed then 1 else 0
    | 0x22 => BitVec.ofNat 8 l.cls.leakage
    | 0x23 => s.lineFlags n
    | 0x24 => byteAt l.cls.baseline 0
    | 0x25 => byteAt l.cls.baseline 1
    | 0x26 => l.rep.written
    | 0x27 => l.takenSeq
    | 0x28 => BitVec.ofNat 8 ((l.lastOutcome.map OrderOutcome.code).getD 0)
    | 0x29 => BitVec.ofNat 8 (s.shownParty n)
    | 0x2A => BitVec.ofNat 8 (((s.bookingOf n).map fun b => b.rotation.val).getD 0)
    | 0x2B => BitVec.ofNat 8 (((s.bookingOf n).map fun b => b.framesRung).getD 0)
    | 0x2C => BitVec.ofNat 8 (waitPosition s.sched.waits n)
    | 0x2D => BitVec.ofNat 8 (((s.waitOf n).map fun e => e.framesWaited).getD 0)
    | 0x2E => BitVec.ofNat 8 l.sup.pulseCount
    | 0x2F => BitVec.ofNat 8 l.sup.profile.val
    | _ => 0

/-- R1: the byte that a shelf-processor read of window offset `off` returns, as it stands.  A read of
the status or the attention register also acts; those effects are SHELF_STATUS_READ and
ATTENTION_REGISTER_READ. -/
def State.readByte (s : State) (off : Nat) : Byte :=
  if off < 0x100 then s.headerByte off
  else if h : 0x800 ≤ off ∧ off < 0x2800 then
    if hostOwned off then s.hostByte off
    else s.recordByte ⟨(off - 0x800) / 128, by omega⟩ ((off - 0x800) % 128)
  else if off < 0x800 then s.hostByte off
  else if off = 0x7FF8 then lowByte s.controlWord
  else if off = 0x7FF9 then highByte s.controlWord
  else if off = 0x7FFA then lowByte s.statusWord
  else if off = 0x7FFB then highByte s.statusWord
  else if off = 0x7FFC then lowByte s.attentionWord
  else if off = 0x7FFD then highByte s.attentionWord
  else if off = 0x7FFE then lowByte s.time16
  else if off = 0x7FFF then highByte s.time16
  else 0

/-- R1: the word that a shelf-processor read of the word at `addr` returns. -/
def State.readWord (s : State) (addr : BitVec 14) : Word :=
  joinBytes (s.readByte (2 * addr.toNat + 1)) (s.readByte (2 * addr.toNat))

end Sys2Proof.Machine
end

