-- ==== Sys2Proof/Machine/Classifier.lean ====
section
/-! DEFINITION. The Loop Classifier with break and make timing: what one sample does to a line, and what
it hands on (chapters 4 and 5). -/

namespace Sys2Proof.Machine

/-- What the classifier does with a line's sample (R39). -/
inductive Mode where
  /-- OUT OF SERVICE. -/
  | off
  /-- LEARNING. -/
  | learn
  /-- IDLE outside the window: hook decisions and the baseline update. -/
  | watchUpdate
  /-- Hook decisions: watch mode, or ring silent mode. -/
  | watch
  /-- RINGING with the ring relay operated: trip watch. -/
  | burst
  /-- Inside the ring-transient window. -/
  | transient
  /-- RING GUARD and TESTING. -/
  | ignore
  deriving DecidableEq, Repr

/-- R47: the arrival at `now` is inside the line's ring-transient window. -/
def Line.inWindow (l : Line) (now : Instant) : Bool :=
  match l.rel.windowEnd with
  | some e => decide (now < e)
  | none => false

/-- R39: the mode in which a sample is taken.  DESIGN CHOICE (log 33): R49 has a slot boundary leave the mode of a
sample at its instant as it was; a line that the boundary moves is judged in the mode of its new state. -/
def Line.mode (l : Line) (now : Instant) : Mode :=
  match l.sup.state with
  | .outOfService => .off
  | .learning => .learn
  | .ringGuard => .ignore
  | .testing => .ignore
  | .idle => if l.inWindow now then .transient else .watchUpdate
  | .ringing =>
    if l.inWindow now then .transient else if l.rel.ringRelay.isSome then .burst else .watch
  | .seizing => if l.inWindow now then .transient else .watch
  | .dialTone => if l.inWindow now then .transient else .watch
  | .dialing => if l.inWindow now then .transient else .watch
  | .inCall => if l.inWindow now then .transient else .watch
  | .cleardown => if l.inWindow now then .transient else .watch
  | .howler => if l.inWindow now then .transient else .watch
  | .lockout => if l.inWindow now then .transient else .watch
  | .ringWait => if l.inWindow now then .transient else .watch

/-- R37: the close threshold Tc. -/
def closeThreshold (p : Profile) (c : Classifier) : Nat := min 255 (c.leakage + p.mc)

/-- R37: the open threshold To. -/
def openThreshold (p : Profile) (c : Classifier) : Nat :=
  min (c.leakage + p.mo) (closeThreshold p c - 4)

/-- R37, R48: the trip threshold Tt. -/
def tripThreshold (p : Profile) (c : Classifier) : Nat := min 255 (c.leakage + p.mt)

/-- R38: the raw hook state after a sample. -/
def Classifier.rawAfter (c : Classifier) (p : Profile) (sample : Nat) : Hook :=
  if closeThreshold p c ≤ sample then .closed
  else if sample ≤ openThreshold p c then .opened
  else c.raw

/-- Lengths in samples, from index `i` to index `j`, in ms; indices differ modulo 2³² (R25, R54, R56). -/
def indexSpan (i j : BitVec 32) : Nat := (j - i).toNat * 2

/-- Elapsed time of the break or make that began at index `i`, at the sample with index `k`
(R54, R58). -/
def elapsedAt (i k : BitVec 32) : Nat := ((k - i).toNat + 1) * 2

/-- R56: the class of a finished break, by its length. -/
def breakClass (p : Profile) (length : Nat) : BreakClass :=
  if length < p.pbMin then .glitch
  else if length ≤ p.pbMax then .pulse
  else if length < p.flMin then .gap
  else if length ≤ p.flMax then .flash
  else .clear

/-- A confirmed event, a trip or the end of learning: what stage 2 of a sample produced (R46, R59).  A
confirmed close carries the class and length of the break it finished, if there was one. -/
inductive LineEvent where
  | opened
  | closed (finished : Option (BreakClass × Nat))
  | trip
  | learned
  deriving DecidableEq, Repr

/-- The elapsed time of a judged sample (R54, R58, R59). -/
inductive Elapsed where
  | breakFor (ms : Nat)
  | makeFor (ms : Nat)
  deriving DecidableEq, Repr

/-- What a sample hands on, in the order of R59: the event, a clear declared during the break with its
break elapsed, and the elapsed time. -/
structure HandOn where
  event : Option LineEvent
  clear : Option Nat
  elapsed : Option Elapsed
  deriving DecidableEq, Repr

/-- A sample that hands nothing on. -/
def HandOn.nothing : HandOn := { event := none, clear := none, elapsed := none }

/-- R45: the debounce run after a sample whose raw state is `raw`: a sample that agrees with the
confirmed state ends the run, one that differs starts or continues it. -/
def Classifier.advanceRun (c : Classifier) (raw : Hook) (k : BitVec 32) : Classifier :=
  if raw = c.confirmed then { c with raw := raw, runCount := 0 }
  else
    { c with
      raw := raw
      runStart := if c.runCount = 0 then some k else c.runStart
      runCount := c.runCount + 1 }

/-- R45, R52: a confirmed open: k0 takes the run start, and the marker takes m0. -/
def Classifier.confirmOpen (c : Classifier) : Classifier :=
  { c with confirmed := .opened, runCount := 0, breakStart := c.runStart, bridge := c.makeStart }

/-- R56: the break that a close with the run start of `c` finishes, if k0 holds an index. -/
def Classifier.finishedBreak (c : Classifier) (p : Profile) : Option (BreakClass × Nat) :=
  match c.breakStart, c.runStart with
  | some k0, some m => some (breakClass p (indexSpan k0 m), indexSpan k0 m)
  | _, _ => none

/-- R45, R52, R56, R57: a confirmed close: m0 takes the run start, or the marker where a glitch is
bridged; a break of class clear clears k0 and the marker (R55). -/
def Classifier.confirmClose (c : Classifier) (p : Profile) : Classifier :=
  let c' := { c with confirmed := .closed, runCount := 0, makeStart := c.runStart }
  match c.finishedBreak p with
  | some (.glitch, _) => { c' with makeStart := c.bridge.orElse fun _ => c.runStart }
  | some (.clear, _) => { c' with breakStart := none, bridge := none }
  | _ => c'

/-- R38, R45: stage 2 of a sample with hook decisions, at index k. -/
def Classifier.hookDecision (c : Classifier) (p : Profile) (sample : Nat) (k : BitVec 32) :
    Classifier × Option LineEvent :=
  let raw := c.rawAfter p sample
  let c1 := c.advanceRun raw k
  if raw ≠ c.confirmed ∧ p.d ≤ c1.runCount then
    match raw with
    | .opened => (c1.confirmOpen, some .opened)
    | .closed => (c1.confirmClose p, some (.closed (c1.finishedBreak p)))
  else (c1, none)

/-- R53, R54, R58: the elapsed time of a judged sample: a break sample or a make sample has one. -/
def Classifier.elapsed (c : Classifier) (k : BitVec 32) : Option Elapsed :=
  match c.confirmed, c.raw with
  | .opened, .opened => c.breakStart.map fun k0 => .breakFor (elapsedAt k0 k)
  | .closed, .closed => c.makeStart.map fun m0 => .makeFor (elapsedAt m0 k)
  | _, _ => none

/-- R54: the clear declared at a sample with this elapsed time. -/
def clearDeclared (p : Profile) : Option Elapsed → Option Nat
  | some (.breakFor ms) => if p.flMax < ms then some ms else none
  | _ => none

/-- Stage 2 with hook decisions, and timing's judgement of the sample (R45, R53 to R59).  A declared
clear clears k0 and the marker (R55). -/
def Classifier.watch (c : Classifier) (p : Profile) (sample : Nat) (k : BitVec 32) :
    Classifier × HandOn :=
  let (c1, event) := c.hookDecision p sample k
  let elapsed := c1.elapsed k
  let clear := clearDeclared p elapsed
  let c2 := if clear.isSome then { c1 with breakStart := none, bridge := none } else c1
  (c2, { event := event, clear := clear, elapsed := elapsed })

/-- R48: stage 2 in burst mode: the trip-confirm count, and the trip. -/
def Classifier.tripWatch (c : Classifier) (p : Profile) (sample : Nat) : Classifier × HandOn :=
  if tripThreshold p c ≤ sample then
    if p.tripConfirm ≤ c.tripCount + 1 then
      ({ c with tripCount := 0 }, { HandOn.nothing with event := some .trip })
    else ({ c with tripCount := c.tripCount + 1 }, .nothing)
  else ({ c with tripCount := 0 }, .nothing)

/-- R43: stage 2 in learn mode: the count and the minimum, and at the eighth sample the baseline. -/
def Classifier.learnSample (c : Classifier) (p : Profile) (sample : Nat) : Classifier × HandOn :=
  let c1 := { c with learnCount := c.learnCount + 1, learnMin := min c.learnMin sample }
  if Config.eightSamples ≤ c1.learnCount then
    let c2 := { c1 with confirmed := .opened, runCount := 0, tripCount := 0 }
    (if c1.learnMin ≤ p.ll then { c2 with baseline := 16 * c1.learnMin, raw := .opened }
      else { c2 with raw := .closed },
     { HandOn.nothing with event := some .learned })
  else (c1, .nothing)

/-- Stage 2 of a sample in each mode, with what it hands on (R40). -/
def Classifier.stage2 (c : Classifier) (m : Mode) (p : Profile) (sample : Nat) (k : BitVec 32) :
    Classifier × HandOn :=
  match m with
  | .watchUpdate => c.watch p sample k
  | .watch => c.watch p sample k
  | .burst => c.tripWatch p sample
  | .learn => c.learnSample p sample
  | .transient => (c, .nothing)
  | .off => (c, .nothing)
  | .ignore => (c, .nothing)

/-- R41: the new baseline: B + (16 s − B) / 16, truncated toward zero and clamped to 0–4,080. -/
def baselineStep (b sample : Nat) : Nat :=
  let step : Int := (16 * (sample : Int) - (b : Int)).tdiv 16
  (max 0 (min 4080 ((b : Int) + step))).toNat

/-- R36, R39, R43: entry to LEARNING. -/
def Classifier.startLearning (c : Classifier) : Classifier :=
  { c with learnCount := 0, learnMin := 255, runCount := 0, tripCount := 0, runStart := none,
           breakStart := none, makeStart := none, bridge := none }

/-- R36: what a halt, a card lost and a SERVICE OFF leave: both hook states open, the runs, counts and
indices cleared; B and the leakage-high flag are kept. -/
def Classifier.interrupted (c : Classifier) : Classifier :=
  { c with raw := .opened, confirmed := .opened, runCount := 0, tripCount := 0, learnCount := 0,
           learnMin := 255, runStart := none, breakStart := none, makeStart := none,
           bridge := none }

/-- R46, R62: the exit from the ignore mode: the raw state follows the confirmed state, no run is under
way, k0 and the marker are cleared, and m0 is the first sample after the exit if the line is confirmed
closed.  `k` is the index of the sample that ends the ignore mode, so the first after it is k + 1
(log 12). -/
def Classifier.leaveIgnore (c : Classifier) (k : BitVec 32) : Classifier :=
  { c with
    raw := c.confirmed
    runCount := 0
    breakStart := none
    bridge := none
    makeStart := if c.confirmed = .closed then some (k + 1) else none }

/-- R39, R61: what the operate of the ring relay does: the run is abandoned, k0 and the marker are
cleared, m0 is kept. -/
def Classifier.relayOperated (c : Classifier) : Classifier :=
  { c with runCount := 0, raw := c.confirmed, breakStart := none, bridge := none }

/-- R39: what a release of the ring relay does: the trip-confirm count becomes 0. -/
def Classifier.relayReleased (c : Classifier) : Classifier := { c with tripCount := 0 }

end Sys2Proof.Machine
end

