-- ==== Sys2Proof/Machine/Relays.lean ====
section
/-! DEFINITION. The Relay Driver: ring requests, the crossing, releases made at once, and the notice
that starts a guard (chapter 10). -/

namespace Sys2Proof.Machine

/-- R101, R108, R110, R111: the line's ring relay is operated, or has an action pending. -/
def Line.relayBusy (l : Line) : Bool := l.rel.ringRelay.isSome || decide (l.rel.pending ≠ .none)

/-- R132: the request to stand operated with a lead. -/
def Line.standOperated (l : Line) (lead : Lead) : Line :=
  { l with rel.pending := if l.rel.ringRelay = some lead then .none else .operate lead }

/-- R132: the request to stand released. -/
def Line.standReleased (l : Line) : Line :=
  { l with rel.pending := if l.rel.ringRelay = none then .none else .release }

/-- R132: the request for a release at the next crossing, replacing any other action; it is hollow
where the relay is already released. -/
def Line.releaseAtCrossing (l : Line) : Line := { l with rel.pending := .release }

/-- R135, R118: the ring-relay-released notice, taken at `now`: a line in RING GUARD with its guard end
clear has it set to now + G; any other line is left as it is. -/
def Line.noticeReleased (l : Line) (now : Instant) (guardTime : Nat) : Line :=
  match l.sup.state, l.sup.guardRecord with
  | .ringGuard, some g =>
    if g.guardEnd.isNone then
      { l with sup.guardRecord := some { g with guardEnd := some (laterBy now guardTime) } }
    else l
  | _, _ => l

/-- R39, R47: the ring relay is released at `now`, and the window runs for 10 ms from it. -/
def Line.switchReleased (l : Line) (now : Instant) : Line :=
  { l with
    rel.ringRelay := none
    rel.windowEnd := some (laterBy now Config.windowMs)
    cls := l.cls.relayReleased }

/-- R39, R47, R61: the ring relay is operated at `now` with a lead. -/
def Line.switchOperated (l : Line) (now : Instant) (lead : Lead) : Line :=
  { l with
    rel.ringRelay := some lead
    rel.windowEnd := some (laterBy now Config.windowMs)
    cls := l.cls.relayOperated }

/-- R133: a line's pending ring action is applied at a crossing. -/
def Line.atCrossing (l : Line) (now : Instant) (guardTime : Nat) : Line :=
  match l.rel.pending with
  | .none => l
  | .operate lead => { l.switchOperated now lead with rel.pending := .none }
  | .release =>
    let l' := if l.rel.ringRelay.isSome then l.switchReleased now else { l with cls := l.cls.relayReleased }
    { l' with rel.pending := .none }.noticeReleased now guardTime

/-- R125, R134: a line at a ring source failure: an operated relay is released at once, a pending
operate is dropped, a hollow release is completed with nothing switched. -/
def Line.atFailure (l : Line) (now : Instant) (guardTime : Nat) : Line :=
  if l.rel.ringRelay.isSome then
    { l.switchReleased now with rel.pending := .none }.noticeReleased now guardTime
  else
    match l.rel.pending with
    | .none => l
    | .operate _ => { l with rel.pending := .none }
    | .release =>
      { l with rel.pending := .none, cls := l.cls.relayReleased }.noticeReleased now guardTime

/-- R133: a crossing that the Monitor hands on, at `now`. -/
def State.relayCrossing (s : State) (now : Instant) : State :=
  s.mapLines fun _ l => l.atCrossing now s.control.params.guardTime

/-- R129: what halt, soft reset, card lost and SERVICE OFF leave of a line's relays. -/
def RelayRecord.allReleased : RelayRecord :=
  { ringRelay := none, pending := .none, tone := .none, testRelay := false, windowEnd := none,
    test := none }

end Sys2Proof.Machine
end

