-- ==== Sys2Proof/Machine/Supervisor.lean ====
section
/-! DEFINITION. The Line Supervisor: entering states, what each item of a sample does in each state, the
supervision deadline, the guard and the test (chapters 6, 8 and 10). -/

namespace Sys2Proof.Machine

/-! ### Entering a state -/

/-- R67, R69: a change of supervision state clears the deadline and selects the state's tone. -/
def Line.enter (l : Line) (st : LineState) (tone : Tone) : Line :=
  { l with sup.state := st, sup.deadline := none, rel.tone := tone }

/-- The pulse count becomes 0 and error-skip is cleared. -/
def Line.clearDigits (l : Line) : Line := { l with sup.pulseCount := 0, sup.errorSkip := false }

/-- Entry to a state whose rule also sets the pulse count to 0 and clears error-skip: LEARNING (R71),
SEIZING (R73), IN CALL (R79), CLEARDOWN (R80), the ringing states (R103). -/
def Line.enterFresh (l : Line) (st : LineState) (tone : Tone) : Line :=
  (l.enter st tone).clearDigits

/-- R71, R43: entry to LEARNING. -/
def Line.enterLearning (l : Line) : Line :=
  { l.enterFresh .learning .none with cls := l.cls.startLearning }

/-- R103: entry to RING GUARD, with the guard record made and its guard end clear (R118). -/
def Line.enterGuard (l : Line) (target : ExitTarget) : Line :=
  { l.enterFresh .ringGuard .none with
    sup.guardRecord := some { guardEnd := none, target := target } }

/-- R67: the supervision deadline, `seconds` after the shelf time of the operation. -/
def Line.setDeadline (l : Line) (kind : DeadlineKind) (time seconds : Nat) : Line :=
  { l with sup.deadline := some (kind, BitVec.ofNat 32 (time + seconds * 1000)) }

/-- The PDT deadline is cancelled within DIALING (R75, R76). -/
def Line.cancelDeadline (l : Line) : Line := { l with sup.deadline := none }

/-- R29, R82: what takes a line to OUT OF SERVICE at once: everything in progress is ended, the
baseline, the leakage-high flag and the working configuration are kept. -/
def Line.outOfService (l : Line) : Line :=
  { l with
    cls := l.cls.interrupted
    sup := { l.sup with state := .outOfService, deadline := none, pulseCount := 0, errorSkip := false,
                        guardRecord := none }
    rel := .allReleased }

/-- R18: what a halt makes of a line. -/
def Line.halted (l : Line) : Line :=
  { l with
    cls := l.cls.interrupted
    sup := { l.sup with
      state := if l.sup.state = .outOfService then .outOfService else .idle
      deadline := none, pulseCount := 0, errorSkip := false, guardRecord := none }
    rel := .allReleased }

/-! ### Items of a sample (R68) -/

/-- The supervision state of line n. -/
def State.stateOf (s : State) (n : LineNo) : LineState := (s.line n).sup.state

/-- A clear that takes the line to IDLE with a CLEAR report carrying the state left (R74, R78 to R81). -/
def State.clearLine (s : State) (n : LineNo) : State :=
  (s.updLine n fun l => l.enter .idle .none).report n (.clear (s.stateOf n))

/-- R78: a clear in DIALING also discards the digit. -/
def State.clearDialing (s : State) (n : LineNo) : State :=
  (s.updLine n Line.clearDigits).clearLine n

/-- R74, R78 to R81: a clear handed on, in each state. -/
def State.itemClear (s : State) (n : LineNo) : State :=
  match s.stateOf n with
  | .dialTone => s.clearLine n
  | .dialing => s.clearDialing n
  | .inCall => s.clearLine n
  | .cleardown => s.clearLine n
  | .howler => s.clearLine n
  | .lockout => s.clearLine n
  | .outOfService => s
  | .learning => s
  | .idle => s
  | .seizing => s
  | .ringWait => s
  | .ringing => s
  | .ringGuard => s
  | .testing => s

/-- R74: the first pulse, in DIAL TONE. -/
def State.firstPulse (s : State) (n : LineNo) : State :=
  s.updLine n fun l =>
    { l.enter .dialing .none with sup.pulseCount := 1, sup.errorSkip := false }

/-- R75: a pulse in DIALING. -/
def State.pulseDialing (s : State) (n : LineNo) : State :=
  let sup := (s.line n).sup
  if sup.errorSkip then s
  else if sup.pulseCount = 10 then
    (s.updLine n fun l => { l.cancelDeadline with sup.pulseCount := 0, sup.errorSkip := true }).report n
      .dialErrorTooManyPulses
  else
    s.updLine n fun l =>
      { l with
        sup.pulseCount := l.sup.pulseCount + 1
        sup.deadline := if l.sup.pulseCount = 0 then none else l.sup.deadline }

/-- R76: a gap in DIALING. -/
def State.gapDialing (s : State) (n : LineNo) : State :=
  if (s.line n).sup.errorSkip then s
  else
    (s.updLine n fun l => { l.cancelDeadline with sup.pulseCount := 0, sup.errorSkip := true }).report n
      .dialErrorGapBreak

/-- R78: a flash in DIALING. -/
def State.flashDialing (s : State) (n : LineNo) (length : Nat) : State :=
  (s.updLine n fun l => l.clearDigits.setDeadline .pdt s.shelfTime (s.profileOf n).pdt).report n
    (.flash length)

/-- R72: the line goes from IDLE to SEIZING (R73). -/
def State.startSeizing (s : State) (n : LineNo) : State :=
  s.updLine n fun l => l.enterFresh .seizing .none

/-- A confirmed close with the break it finished, in each state (R72, R74 to R81). -/
def State.itemClose (s : State) (n : LineNo) (finished : Option (BreakClass × Nat)) : State :=
  match s.stateOf n, finished with
  | .idle, _ => s.startSeizing n
  | .dialTone, some (.pulse, _) => s.firstPulse n
  | .dialing, some (.pulse, _) => s.pulseDialing n
  | .dialing, some (.gap, _) => s.gapDialing n
  | .dialing, some (.flash, length) => s.flashDialing n length
  | .inCall, some (.flash, length) => s.report n (.flash length)
  | _, some (.clear, _) => s.itemClear n
  | _, _ => s

/-- A confirmed open, in each state: in SEIZING it ends the seizure (R73), elsewhere it is ignored. -/
def State.itemOpen (s : State) (n : LineNo) : State :=
  match s.stateOf n with
  | .seizing => s.updLine n fun l => l.enter .idle .none
  | _ => s

/-- R73: a seizure is qualified. -/
def State.qualifySeizure (s : State) (n : LineNo) : State :=
  (s.updLine n fun l => (l.enter .dialTone .dial).setDeadline .fdt s.shelfTime (s.profileOf n).fdt).report
    n .seize

/-- R77: a make in DIALING has reached IDT. -/
def State.endDigit (s : State) (n : LineNo) : State :=
  let sup := (s.line n).sup
  let restart (l : Line) : Line :=
    l.clearDigits.setDeadline .pdt s.shelfTime (s.profileOf n).pdt
  if sup.errorSkip then s.updLine n restart
  else if sup.pulseCount = 0 then s
  else (s.updLine n restart).report n (.digit (sup.pulseCount % 10))

/-- R115, R117, R79: an answered line whose relay needs no guard goes to IN CALL; a pending operate is
cancelled (R132).  DESIGN CHOICE (log 30): R63 has the operate follow such a sample and clear k0 and the marker,
and R115, R120 and R132 cancel it at the answer; it is cancelled, and k0 and the marker stay. -/
def State.answerNow (s : State) (n : LineNo) (how : AnswerKind) (frames : Nat) : State :=
  (s.updLine n fun l => { l.enterFresh .inCall .none with rel.pending := .none }).report n
    (.answer how frames)

/-- R115: a make sample in RINGING: an answer in silence after the first burst, an answer before ring
when the make reaches SQ. -/
def State.makeRinging (s : State) (n : LineNo) (ms : Nat) : State :=
  match s.bookingOf n with
  | none => s
  | some b =>
    if b.firstBurst then (s.dropBookings (· = n)).answerNow n .inSilence b.framesRung
    else if (s.profileOf n).sq ≤ ms then (s.dropBookings (· = n)).answerNow n .beforeRing b.framesRung
    else s

/-- R117: a make sample in RING WAIT. -/
def State.makeWaiting (s : State) (n : LineNo) (ms : Nat) : State :=
  if (s.profileOf n).sq ≤ ms then (s.dropWaits (· = n)).answerNow n .beforeRing 0 else s

/-- A make sample's elapsed time, in each state; `fresh` says that the close was confirmed at this very
sample, in which case IDLE does not act on it (R72). -/
def State.itemMake (s : State) (n : LineNo) (ms : Nat) (fresh : Bool) : State :=
  match s.stateOf n with
  | .idle => if fresh then s else s.startSeizing n
  | .seizing => if (s.profileOf n).sq ≤ ms then s.qualifySeizure n else s
  | .dialing => if (s.profileOf n).idt ≤ ms then s.endDigit n else s
  | .ringing => s.makeRinging n ms
  | .ringWait => s.makeWaiting n ms
  | .outOfService => s
  | .learning => s
  | .dialTone => s
  | .inCall => s
  | .cleardown => s
  | .howler => s
  | .lockout => s
  | .ringGuard => s
  | .testing => s

/-- R116, R134: a trip in RINGING: the booking is removed, the line goes to RING GUARD toward IN CALL,
and the relay's release is made at once or asked for, by the trip release mode. -/
def State.itemTrip (s : State) (n : LineNo) (now : Instant) : State :=
  match s.stateOf n, s.bookingOf n with
  | .ringing, some b =>
    ((s.dropBookings (· = n)).updLine n fun l =>
      let l' := l.enterGuard .inCall
      match s.control.params.tripMode with
      | .immediate =>
        { l'.switchReleased now with rel.pending := .none }.noticeReleased now
          s.control.params.guardTime
      | .atCrossing => l'.releaseAtCrossing).report n (.answer .inBurst b.framesRung)
  | _, _ => s

/-- R43, R71: the end of learning moves the line to IDLE, with no report. -/
def State.itemLearned (s : State) (n : LineNo) : State :=
  s.updLine n fun l => l.enter .idle .none

/-- The event of a sample, handed on (R68). -/
def State.takeEvent (s : State) (n : LineNo) (now : Instant) : Option LineEvent → State
  | none => s
  | some .opened => s.itemOpen n
  | some (.closed finished) => s.itemClose n finished
  | some .trip => s.itemTrip n now
  | some .learned => s.itemLearned n

/-- A clear declared during the break, handed on (R68). -/
def State.takeClear (s : State) (n : LineNo) : Option Nat → State
  | none => s
  | some _ => s.itemClear n

/-- Is the event a confirmed close? -/
def LineEvent.isClose : Option LineEvent → Bool
  | some (.closed _) => true
  | _ => false

/-- The elapsed time, handed on; break elapsed is ignored in every state (R72 to R81, R115, R117). -/
def State.takeElapsed (s : State) (n : LineNo) (fresh : Bool) : Option Elapsed → State
  | some (.makeFor ms) => s.itemMake n ms fresh
  | some (.breakFor _) => s
  | none => s

/-! ### The supervision deadline (R67) -/

/-- R67: the arrival is at or after the deadline: the difference of the 32-bit times is below 2³¹. -/
def deadlineReached (now deadline : BitVec 32) : Bool := decide ((now - deadline).toNat < 2 ^ 31)

/-- R74, R78, R80: FDT, PDT or CDT expires into HOWLER. -/
def State.expireToHowler (s : State) (n : LineNo) (kind : DeadlineKind) : State :=
  (s.updLine n fun l => (l.enter .howler .howler).setDeadline .how s.shelfTime (s.profileOf n).how).report
    n (.timeout kind)

/-- R81: HOW expires into LOCKOUT. -/
def State.expireToLockout (s : State) (n : LineNo) : State :=
  (s.updLine n fun l => l.enter .lockout .none).report n (.timeout .how)

/-- R67: what an expiry does: it clears the deadline, and acts by its kind and the line's state. -/
def State.expire (s : State) (n : LineNo) (kind : DeadlineKind) : State :=
  match kind, s.stateOf n with
  | .fdt, .dialTone => s.expireToHowler n .fdt
  | .pdt, .dialing => s.expireToHowler n .pdt
  | .cdt, .cleardown => s.expireToHowler n .cdt
  | .how, .howler => s.expireToLockout n
  | _, _ => s.updLine n Line.cancelDeadline

/-- The supervision deadline of line n that has been reached, if one has (R67). -/
def State.deadlineDue (s : State) (n : LineNo) : Option DeadlineKind :=
  match (s.line n).sup.deadline with
  | some (kind, deadline) => if deadlineReached s.time32 deadline then some kind else none
  | none => none

/-- R67: the deadline is judged at the line's sample arrival. -/
def State.judgeDeadline (s : State) (n : LineNo) : State :=
  match s.deadlineDue n with
  | some kind => s.expire n kind
  | none => s

/-! ### The ignore mode: guard and test (R118, R137) -/

/-- R46, R62: the line leaves the ignore mode at the sample whose index it now holds. -/
def Line.leaveIgnore (l : Line) : Line := { l with cls := l.cls.leaveIgnore l.sampleIndex }

/-- R118, R79: a guard ends into IN CALL, confirmed closed. -/
def Line.guardToCall (l : Line) : Line :=
  let l' := l.enterFresh .inCall .none
  { l' with sup.guardRecord := none, cls.confirmed := .closed }.leaveIgnore

/-- R118: a guard ends into IDLE or RING WAIT, the confirmed state as it stood. -/
def Line.guardTo (l : Line) (st : LineState) : Line :=
  let l' := l.enterFresh st .none
  { l' with sup.guardRecord := none }.leaveIgnore

/-- R118: the guard of line n ends, toward its exit target. -/
def State.endGuard (s : State) (n : LineNo) (target : ExitTarget) : State :=
  match target with
  | .inCall => s.updLine n Line.guardToCall
  | .idle => s.updLine n fun l => l.guardTo .idle
  | .ringWait (.evicted mark) party maxFrames =>
    let s' := (s.updLine n fun l => l.guardTo .ringWait).joinEvicted
      (newWait n party maxFrames (some mark)) mark
    s'.report n (.ringQueued .evicted (waitPosition s'.sched.waits n))
  | .ringWait .noRoom party maxFrames =>
    let s' := (s.updLine n fun l => l.guardTo .ringWait).joinTail (newWait n party maxFrames none)
    s'.report n (.ringQueued .noRoom (waitPosition s'.sched.waits n))

/-- R118: the exit target of a guard that has ended by `now`. -/
def Line.guardOver (l : Line) (now : Instant) : Option ExitTarget :=
  match l.sup.state, l.sup.guardRecord with
  | .ringGuard, some g =>
    match g.guardEnd with
    | some e => if e ≤ now then some g.target else none
    | none => none
  | _, _ => none

/-- R137: the outcome of a measure against the test window in force. -/
def testOutcome (p : Params) (m : Nat) : TestOutcome :=
  if m < p.testLow then .failLow else if m ≤ p.testHigh then .pass else .failHigh

/-- R137: the measure: the average of the eight samples, less the leakage, not below 0. -/
def testMeasure (sum leakage : Nat) : Nat := sum / 8 - leakage

/-- R137: a measuring sample is added to the line test record. -/
def TestRecord.measure (t : TestRecord) (sample : Nat) : TestRecord :=
  { t with count := t.count + 1, sum := t.sum + sample }

/-- R137: the test ends: the test relay is released, the record discarded, the line goes to IDLE. -/
def Line.endTest (l : Line) : Line :=
  let l' := l.enter .idle .none
  { l' with rel.testRelay := false, rel.test := none }.leaveIgnore

/-- R137: the line test ends with the sum of its eight samples. -/
def State.finishTest (s : State) (n : LineNo) (sum : Nat) : State :=
  let m := testMeasure sum (s.line n).cls.leakage
  (s.updLine n Line.endTest).report n (.testResult (testOutcome s.control.params m) m)

/-- R137: the line test record as the sample at `now` leaves it, if the sample is a measuring one. -/
def Line.measured (l : Line) (now : Instant) (sample : Nat) : Option TestRecord :=
  match l.sup.state, l.rel.test with
  | .testing, some t => if t.settleEnd ≤ now then some (t.measure sample) else none
  | _, _ => none

/-- A sample in the ignore mode: the guard end is judged (R118), or the test takes it (R137). -/
def State.ignoredSample (s : State) (n : LineNo) (now : Instant) (sample : Nat) : State :=
  match (s.line n).guardOver now with
  | some target => s.endGuard n target
  | none =>
    match (s.line n).measured now sample with
    | some t =>
      if Config.eightSamples ≤ t.count then s.finishTest n t.sum
      else s.updLine n fun l => { l with rel.test := some t }
    | none => s

end Sys2Proof.Machine
end

