-- ==== Sys2Proof/Machine/Scheduler.lean ====
section
/-! DEFINITION. The Ring Scheduler: leaving RINGING, the slot boundary and its five stages, a reload's
eviction and pending changes, and the failure hand-off (chapters 7, 8 and 9). -/

namespace Sys2Proof.Machine

/-! ### Leaving RINGING without an answer -/

/-- R101, R110, R111: a line that leaves RINGING with its relay operated or an action pending asks for a
release at the next crossing and goes to RING GUARD with this target, and so, at a slot boundary too, to the
ignore mode (R39, R118 against R49; log 33). -/
def State.guardWithRelease (s : State) (n : LineNo) (target : ExitTarget) : State :=
  s.updLine n fun l => (l.enterGuard target).releaseAtCrossing

/-- R108, R110: a line stops ringing for IDLE, through a guard if its relay is operated or has an action
pending. -/
def State.ringToIdle (s : State) (n : LineNo) : State :=
  if (s.line n).relayBusy then s.guardWithRelease n .idle
  else s.updLine n fun l => l.enterFresh .idle .none

/-- R106, R111, R114: book party p of line n at rotation r, at the tail; the line is RINGING. -/
def State.book (s : State) (n : LineNo) (p : Fin 4) (r : FrameSlot) (maxFrames : Nat) : State :=
  (s.addBooking (s.newBooking n p r maxFrames)).updLine n fun l => l.enterFresh .ringing .none

/-- R106, R111: party p of line n joins the wait list at the tail; the line is in RING WAIT. -/
def State.waitAtTail (s : State) (n : LineNo) (p : Fin 4) (maxFrames : Nat) : State :=
  (s.joinTail (newWait n p maxFrames none)).updLine n fun l => l.enterFresh .ringWait .none

/-- Append RING QUEUED with line n's present wait position (R121). -/
def State.reportQueued (s : State) (n : LineNo) (cause : QueueCause) : State :=
  s.report n (.ringQueued cause (waitPosition s.sched.waits n))

/-! ### Stage 2: frame ends (R110, R111) -/

/-- R111: the max frames that a re-admission applies, by the change's origin. -/
def PendingChange.applied (c : PendingChange) : Nat :=
  match c.origin with
  | .order => c.maxFrames
  | .reload => c.maxFrames - 1

/-- R111: a pending change is applied at a frame end, at the boundary that starts slot c. -/
def State.applyChange (s : State) (n : LineNo) (c : FrameSlot) (change : PendingChange) : State :=
  let s1 := s.dropBookings (· = n)
  match s1.search n change.party c with
  | some r =>
    (s1.book n change.party r change.applied).report n (.ringBooked (r - c).val r)
  | none =>
    if (s1.line n).relayBusy then
      s1.guardWithRelease n (.ringWait .noRoom change.party change.applied)
    else (s1.waitAtTail n change.party change.applied).reportQueued n .noRoom

/-- R110: frames rung after a frame end; a booking with max frames 0 stops counting at 60. -/
def Booking.frameCount (b : Booking) : Nat :=
  if b.maxFrames = 0 then min 60 (b.framesRung + 1) else b.framesRung + 1

/-- R110: the booking reaches its max frames at this frame end. -/
def Booking.reachesLimit (b : Booking) : Bool :=
  decide (0 < b.maxFrames) && decide (b.frameCount = b.maxFrames)

/-- R110: the frame of line n's booking ends at the boundary that starts slot c.  A line that leaves RINGING for
RING GUARD or IDLE has the mode of its new state from here on (R39 against R49; log 33). -/
def State.frameEnd (c : FrameSlot) (s : State) (n : LineNo) : State :=
  match s.bookingOf n with
  | none => s
  | some b =>
    if b.reachesLimit then
      ((s.dropBookings (· = n)).ringToIdle n).report n (.ringEndNoAnswer b.frameCount)
    else
      match b.change with
      | some change => s.applyChange n c change
      | none => s.updBooking n fun b => { b with framesRung := b.frameCount }

/-- R110: a booking's frame ends at the boundary that starts slot c. -/
def Booking.endsAt (b : Booking) (c : FrameSlot) : Bool := decide (b.rotation = c) && b.firstBurst

/-- R110: the lines whose frames end at the boundary that starts slot c, in booking order. -/
def State.frameEndLines (s : State) (c : FrameSlot) : List LineNo :=
  (s.sched.bookings.filter fun b => b.endsAt c).map Booking.line

/-- Stage 2 of a slot boundary (R109). -/
def State.frameEnds (s : State) (c : FrameSlot) : State :=
  (s.frameEndLines c).foldl (State.frameEnd c) s

/-! ### Stage 3: relay requests (R112) -/

/-- R112: the booking is at its first burst at the boundary that starts slot c. -/
def Booking.startsAt (b : Booking) (c : FrameSlot) : Bool :=
  !b.firstBurst && decide (b.rotation = c)

/-- R112: the line's relay is asked to follow the booking's mark for slot c, or to stand released before
the booking's first burst. -/
def Booking.request (b : Booking) (c : FrameSlot) (l : Line) : Line :=
  if (b.firstBurst || decide (b.rotation = c)) && ringsIn b.mask b.rotation c then
    l.standOperated l.sup.parties[b.party].lead
  else l.standReleased

/-- Stage 3 of a slot boundary (R109, R112). -/
def State.relayRequests (s : State) (c : FrameSlot) : State :=
  { s.mapLines (fun n l =>
      match s.bookingOf n with
      | some b => b.request c l
      | none => l) with
    sched.bookings := s.sched.bookings.map fun b =>
      if b.startsAt c then { b with firstBurst := true } else b }

/-! ### Stage 4: frame boundary work (R113, R22, R100 to R102, R119) -/

/-- R113: a wait entry is counted at a frame boundary. -/
def WaitEntry.counted (e : WaitEntry) (priorityAge : Nat) : WaitEntry :=
  { e with framesWaited := e.framesWaited + 1 }.judged priorityAge

/-- R113: a wait entry at its wait limit leaves, and its line goes to IDLE, with its mode (R39 against R49; log
33). -/
def State.endWait (s : State) (n : LineNo) : State :=
  ((s.dropWaits (· = n)).updLine n fun l => l.enterFresh .idle .none).report n .ringEndWaitLimit

/-- R113: the entries of the lines `begun`, which were in the list when the boundary began, are
counted, and those at the wait limit leave. -/
def State.countWaits (s : State) (begun : List LineNo) : State :=
  let p := s.control.params
  let s1 : State := { s with sched.waits := s.sched.waits.map fun e : WaitEntry =>
    if e.line ∈ begun then e.counted p.priorityAge else e }
  ((s1.sched.waits.filter fun e => decide (p.waitLimit ≤ e.framesWaited)).map WaitEntry.line).foldl
    State.endWait s1

/-- R100: some slot load is above the capacity. -/
def overCapacity (loads : Vector Nat 12) (capacity : Nat) : Bool :=
  (List.finRange 12).any fun k => decide (capacity < loads[k])

/-- R100: evict from the newest booking on, while some slot is over; `newest` is the booking list with
its tail first.  The result is how many bookings are evicted. -/
def evictCount (capacity : Nat) : List Booking → Vector Nat 12 → Nat
  | [], _ => 0
  | b :: newest, loads =>
    if overCapacity loads capacity then evictCount capacity newest (subLoad loads b) + 1 else 0

/-- R101, R126: the party and max frames of the wait entry that a booking gives: those of its pending
change if it had one (as stored, log 20), and its own otherwise. -/
def Booking.waiting (b : Booking) : Fin 4 × Nat :=
  match b.change with
  | some c => (c.party, c.maxFrames)
  | none => (b.party, b.maxFrames)

/-- R101, R102: an evicted line goes to RING GUARD, or joins the wait list at once, with the mode of its new state
(R39 against R49; log 33). -/
def State.evictLine (s : State) (b : Booking) (mark : EvictionMark) : State :=
  let (party, maxFrames) := b.waiting
  if (s.line b.line).relayBusy then
    s.guardWithRelease b.line (.ringWait (.evicted mark) party maxFrames)
  else
    (s.joinEvicted (newWait b.line party maxFrames (some mark)) mark).updLine b.line fun l =>
      l.enterFresh .ringWait .none

/-- R101: the evicted lines are dealt with oldest first, ranked from `rank` on. -/
def State.evictLines (s : State) : List Booking → Nat → State
  | [], _ => s
  | b :: rest, rank =>
    (s.evictLine b { time := s.shelfTime, rank := rank }).evictLines rest (rank + 1)

/-- R102: the lines that joined at once are reported, once all are placed. -/
def State.reportEvicted (s : State) (lines : List LineNo) : State :=
  lines.foldl (fun s n => if s.stateOf n = .ringWait then s.reportQueued n .evicted else s) s

/-- R100, R101, R102: the eviction stage of a reload. -/
def State.evict (s : State) : State :=
  let k := evictCount s.control.params.capacity s.sched.bookings.reverse s.sched.loads
  let kept := s.sched.bookings.take (s.sched.bookings.length - k)
  let evicted := s.sched.bookings.drop (s.sched.bookings.length - k)
  let s1 := { s with
    sched.bookings := kept
    sched.loads := evicted.foldl subLoad s.sched.loads }
  (s1.evictLines evicted 1).reportEvicted (evicted.map Booking.line)

/-- R119: the pending change that a reload gives a booking. -/
def Booking.reloadChange (b : Booking) : PendingChange :=
  { party := b.party
    maxFrames := if b.maxFrames = 0 then 0 else b.maxFrames - b.framesRung
    origin := .reload }

/-- R119: a remaining booking whose code's mask has changed is given a pending change, provided it
holds none. -/
def State.reloadChanges (s : State) : State :=
  { s with sched.bookings := s.sched.bookings.map fun b =>
      if b.mask ≠ s.maskOf b.line b.party ∧ b.change = none then
        { b with change := some b.reloadChange }
      else b }

/-- R22: the reload check of a frame boundary: a parameter load with its stage 7 (R20).  The writes
`early` and `late` land after the comparison, during the read of the block where one is made (log 17). -/
def State.reloadCheck (s : State) (early late : List BusWrite) : State :=
  if s.generationField = s.control.generationTaken then s.landed early late
  else (s.loadMeeting early late).evict.reloadChanges

/-! ### Stage 5: the walk (R114) -/

/-- R114: an entry is booked by the walk at rotation r, at the boundary that starts slot c; at rotation
c its first burst is marked and its operate asked for. -/
def State.walkBook (s : State) (c : FrameSlot) (e : WaitEntry) (r : FrameSlot) : State :=
  let s1 := (s.dropWaits (· = e.line)).book e.line e.party r e.maxFrames
  let s2 := s1.report e.line (.ringBooked (r - c).val r)
  if r = c then
    (s2.updBooking e.line fun b => { b with firstBurst := true }).updLine e.line fun l =>
      l.standOperated l.sup.parties[e.party].lead
  else s2

/-- R114: the walk over the entries from the head; a blocking entry that does not fit stops it. -/
def State.walk (c : FrameSlot) : List WaitEntry → State → State
  | [], s => s
  | e :: rest, s =>
    match s.search e.line e.party c with
    | some r => State.walk c rest (s.walkBook c e r)
    | none => if e.blocking then s else State.walk c rest s

/-! ### The boundary (R109) -/

/-- R91, R109: the slot that a boundary starts. -/
def State.nextSlot (s : State) (first : Bool) : FrameSlot := if first then 0 else s.sched.slot + 1

/-- R109, stages 4 and 5 of the boundary that starts slot c. -/
def State.boundaryTail (s : State) (c : FrameSlot) (begun : List LineNo) (early late : List BusWrite) :
    State :=
  let s4 := if c = 0 then (s.countWaits begun).reloadCheck early late
    else s.landed early late
  if s4.source.state = .running then State.walk c s4.sched.waits s4 else s4

/-- R109: the slot boundary at shelf time `time`; `first` is the one with which the slot clock starts
(R91), and `early` and `late` are the shelf processor's writes that meet it (R20). -/
def State.boundary (s : State) (first : Bool) (time : Nat) (early late : List BusWrite) : State :=
  let c := s.nextSlot first
  let begun := s.sched.waits.map WaitEntry.line
  let s1 := { s with sched.slot := c, sched.nextBoundary := some (time + Config.slotMs) }
  ((s1.frameEnds c).relayRequests c).boundaryTail c begun early late

/-- R91: the time of the slot boundary that is due: shelf time has reached it while RUNNING. -/
def State.boundaryDue (s : State) : Option Nat :=
  if s.control.shelf = .running then s.sched.nextBoundary.filter fun t => decide (t ≤ s.shelfTime)
  else none

/-! ### The failure hand-off (R125, R126) -/

/-- R126: the wait entry that a booking becomes when the source fails. -/
def Booking.toWait (b : Booking) : WaitEntry := newWait b.line b.waiting.1 b.waiting.2 none

/-- R126: a line that was RINGING goes to RING WAIT, with its new position. -/
def State.queueDown (s : State) (n : LineNo) : State :=
  (s.updLine n fun l => l.enterFresh .ringWait .none).reportQueued n .sourceDown

/-- R125, R126: the hand-off of a ring source failure at `now`.  DESIGN CHOICE (log 31): R126 has it change the
source state alone where the booking list is empty, and R118, R125, R128 and R134 release a line in RING GUARD
with its guard end clear; it is released, whatever the list holds. -/
def State.failSource (s : State) (now : Instant) : State :=
  let s1 := s.mapLines fun _ l => l.atFailure now s.control.params.guardTime
  let moved := s1.sched.bookings
  let s2 := { s1 with
    sched.waits := moved.map Booking.toWait ++ s1.sched.waits
    sched.bookings := []
    sched.loads := Vector.replicate 12 0 }
  (moved.map Booking.line).foldl State.queueDown s2

end Sys2Proof.Machine
end

