-- ==== Sys2Proof/Machine/Monitor.lean ====
section
/-! DEFINITION. The Ring Source Monitor: crossings and the loss deadline (R122 to R126). -/

namespace Sys2Proof.Machine

/-- R123: the spacing from `last` to `now` is good: H/2 ≤ t ≤ 2H, H/2 compared to the half
millisecond. -/
def goodSpacing (halfPeriod : Nat) (last now : Instant) : Bool :=
  decide (halfPeriod * Config.ticksPerMs ≤ 2 * (now - last)) &&
    decide (now - last ≤ 2 * halfPeriod * Config.ticksPerMs)

/-- R123, stages 1 and 2: the source state and the good-crossing count after a crossing at `now`.  In
QUALIFYING the last crossing is always set; were it clear, the crossing would be no good spacing
(log 15). -/
def SourceMonitor.judge (m : SourceMonitor) (halfPeriod : Nat) (now : Instant) :
    SourceState × Nat :=
  match m.state with
  | .absent => (.qualifying, 0)
  | .failed => (.qualifying, 0)
  | .running => (.running, m.goodCount)
  | .qualifying =>
    match m.lastCrossing with
    | some last =>
      if goodSpacing halfPeriod last now then
        if Config.qualifyCount ≤ m.goodCount + 1 then (.running, m.goodCount + 1)
        else (.qualifying, m.goodCount + 1)
      else (.qualifying, 0)
    | none => (.qualifying, 0)

/-- R123: the monitor after a crossing: the state, the count, the record and the loss deadline. -/
def SourceMonitor.crossed (m : SourceMonitor) (halfPeriod : Nat) (now : Instant) : SourceMonitor :=
  { state := (m.judge halfPeriod now).1
    goodCount := (m.judge halfPeriod now).2
    lastCrossing := some now
    lossDeadline := some (laterBy now (5 * halfPeriod)) }

/-- R122, R14: the Monitor takes crossings only while the shelf is STARTING or RUNNING. -/
def State.takesCrossings (s : State) : Bool := decide (s.control.shelf ≠ .halted)

/-- R123: a crossing at `now`, taken whole, and handed to the Relay Driver if the source is then
RUNNING. -/
def State.takeCrossing (s : State) (now : Instant) : State :=
  let m := s.source.crossed s.control.params.halfPeriod now
  let s1 := { s with source := m }
  if m.state = .running then s1.relayCrossing now else s1

/-- R123: the crossing at `now` is the one that qualifies the source. -/
def State.qualifiesAt (s : State) (now : Instant) : Bool :=
  s.takesCrossings && decide (s.source.state = .qualifying) &&
    decide ((s.source.judge s.control.params.halfPeriod now).1 = .running)

/-- R124: the loss deadline has been reached at `now`. -/
def State.lossDue (s : State) (now : Instant) : Bool :=
  match s.source.lossDeadline with
  | some d => decide (d ≤ now)
  | none => false

/-- R124: what the Monitor holds when its deadline has expired. -/
def SourceMonitor.lost (st : SourceState) : SourceMonitor :=
  { state := st, goodCount := 0, lastCrossing := none, lossDeadline := none }

/-- R124: the loss deadline expires at `now`. -/
def State.expireLoss (s : State) (now : Instant) : State :=
  match s.source.state with
  | .qualifying => { s with source := .lost .absent }
  | .running => { s with source := .lost .failed }.failSource now
  | .absent => s
  | .failed => s

end Sys2Proof.Machine
end

