-- ==== Sys2Proof/Machine/Sample.lean ====
section
/-! DEFINITION. A sample arrival, whole: delivery (R24 to R26), the five stages of R40, and what of it a
row of the opcode table names. -/

namespace Sys2Proof.Machine

/-- R26: a read that the card does not answer yields 0. -/
def sampleOf (answer : Option Byte) : Nat := (answer.getD 0).toNat

/-- R24, R14: line n receives its sample: the shelf is STARTING or RUNNING, and its card is present. -/
def State.delivers (s : State) (n : LineNo) : Bool :=
  decide (s.control.shelf ≠ .halted) && s.cardPresent n

/-- R25: the delivery advances the line's sample index. -/
def State.delivered (s : State) (n : LineNo) : State :=
  s.updLine n fun l => { l with sampleIndex := l.sampleIndex + 1 }

/-- R39: the mode in which line n's sample is taken. -/
def State.modeOf (s : State) (n : LineNo) : Mode := (s.line n).mode (s.arrivalInstant n)

/-- R40, stages 1 and 2: what the classifier makes of the sample, and what it hands on. -/
def State.classified (s : State) (n : LineNo) (sample : Nat) : Classifier × HandOn :=
  (s.line n).cls.stage2 (s.modeOf n) (s.profileOf n) sample (s.line n).sampleIndex

/-- What the sample hands on. -/
def State.handOn (s : State) (n : LineNo) (sample : Nat) : HandOn := (s.classified n sample).2

/-- Stage 2 done: line n's classifier is as the sample leaves it. -/
def State.afterStage2 (s : State) (n : LineNo) (sample : Nat) : State :=
  s.updLine n fun l => { l with cls := (s.classified n sample).1 }

/-- Stage 3, the event acted on (R68). -/
def State.afterEvent (s : State) (n : LineNo) (sample : Nat) : State :=
  (s.afterStage2 n sample).takeEvent n (s.arrivalInstant n) (s.handOn n sample).event

/-- Stage 3, the clear acted on (R68). -/
def State.afterClear (s : State) (n : LineNo) (sample : Nat) : State :=
  (s.afterEvent n sample).takeClear n (s.handOn n sample).clear

/-- Stage 3, the elapsed time acted on (R68). -/
def State.afterElapsed (s : State) (n : LineNo) (sample : Nat) : State :=
  (s.afterClear n sample).takeElapsed n (LineEvent.isClose (s.handOn n sample).event)
    (s.handOn n sample).elapsed

/-- Stage 3 with the items of the ignore mode, before the deadline is judged. -/
def State.afterItems (s : State) (n : LineNo) (sample : Nat) : State :=
  match s.modeOf n with
  | .ignore => s.ignoredSample n (s.arrivalInstant n) sample
  | .off => s
  | .learn => s.afterElapsed n sample
  | .watchUpdate => s.afterElapsed n sample
  | .watch => s.afterElapsed n sample
  | .burst => s.afterElapsed n sample
  | .transient => s.afterElapsed n sample

/-- Stage 3, whole: the items, then the supervision deadline (R67, R68). -/
def State.afterStage3 (s : State) (n : LineNo) (sample : Nat) : State :=
  (s.afterItems n sample).judgeDeadline n

/-- R41: the baseline update of line n, if the line is still in IDLE and confirmed open and the sample
is at or below the close threshold `tc` of stage 1. -/
def State.updateBaseline (s : State) (n : LineNo) (sample tc : Nat) : State :=
  if s.stateOf n = .idle ∧ (s.line n).cls.confirmed = .opened ∧ sample ≤ tc then
    s.updLine n fun l => { l with cls.baseline := baselineStep l.cls.baseline sample }
  else s

/-- Stage 4: the baseline, for a sample taken in watch mode with update (R40). -/
def State.afterStage4 (s : State) (n : LineNo) (sample : Nat) : State :=
  if s.modeOf n = .watchUpdate then
    (s.afterStage3 n sample).updateBaseline n sample (closeThreshold (s.profileOf n) (s.line n).cls)
  else s.afterStage3 n sample

/-- R44: the leakage check of line n. -/
def State.checkLeakage (s : State) (n : LineNo) : State :=
  let l := (s.line n).cls.leakage
  let limit := (s.profileOf n).ll
  if (s.line n).cls.leakageHigh then
    if l ≤ limit - 4 then
      (s.updLine n fun x => { x with cls.leakageHigh := false }).report n (.leakageNormal l)
    else s
  else if limit < l then
    (s.updLine n fun x => { x with cls.leakageHigh := true }).report n (.leakageHigh l)
  else s

/-- R39, R44: the sample's mode makes the leakage check; in learn mode only the eighth sample does. -/
def State.checksLeakage (s : State) (n : LineNo) (sample : Nat) : Bool :=
  match s.modeOf n with
  | .off => false
  | .ignore => false
  | .learn => decide ((s.handOn n sample).event = some .learned)
  | .watchUpdate => true
  | .watch => true
  | .burst => true
  | .transient => true

/-- The five stages of a sample that has been delivered (R40). -/
def State.stages (s : State) (n : LineNo) (sample : Nat) : State :=
  if s.checksLeakage n sample then (s.afterStage4 n sample).checkLeakage n
  else s.afterStage4 n sample

/-- R40: a sample arrival at line n, whole.  A line that is not read receives none (R24). -/
def State.arrival (s : State) (n : LineNo) (answer : Option Byte) : State :=
  if s.delivers n then (s.delivered n).stages n (sampleOf answer) else s

/-! ### What an arrival brings about

Each of these says, from the state before an arrival and the card's answer, whether the event that a
row names comes about in it (log 6). -/

/-- The sample hands on this kind of event. -/
def State.bringsEvent (s : State) (n : LineNo) (answer : Option Byte) (p : LineEvent → Bool) : Bool :=
  s.delivers n &&
    (((s.delivered n).handOn n (sampleOf answer)).event.elim false p)

/-- R43: the eighth learning sample. -/
def State.bringsLearned (s : State) (n : LineNo) (answer : Option Byte) : Bool :=
  s.bringsEvent n answer fun e => decide (e = .learned)

/-- R45: a confirmed open. -/
def State.bringsOpen (s : State) (n : LineNo) (answer : Option Byte) : Bool :=
  s.bringsEvent n answer fun e => decide (e = .opened)

/-- R45: a confirmed close. -/
def State.bringsClose (s : State) (n : LineNo) (answer : Option Byte) : Bool :=
  s.bringsEvent n answer fun e => LineEvent.isClose (some e)

/-- R48: a trip. -/
def State.bringsTrip (s : State) (n : LineNo) (answer : Option Byte) : Bool :=
  s.bringsEvent n answer fun e => decide (e = .trip)

/-- R54: a clear declared during the break. -/
def State.bringsClear (s : State) (n : LineNo) (answer : Option Byte) : Bool :=
  s.delivers n && ((s.delivered n).handOn n (sampleOf answer)).clear.isSome

/-- A make sample whose elapsed time is `p` of it, in the state that the items before it left. -/
def State.bringsMake (s : State) (n : LineNo) (answer : Option Byte) (p : State → Nat → Bool) : Bool :=
  let sample := sampleOf answer
  s.delivers n &&
    match ((s.delivered n).handOn n sample).elapsed with
    | some (.makeFor ms) => p ((s.delivered n).afterClear n sample) ms
    | _ => false

/-- R73: a make in SEIZING reaches SQ. -/
def State.bringsSeizure (s : State) (n : LineNo) (answer : Option Byte) : Bool :=
  s.bringsMake n answer fun t ms =>
    decide (t.stateOf n = .seizing) && decide ((t.profileOf n).sq ≤ ms)

/-- R77: a make in DIALING reaches IDT after counted pulses, or with error-skip set. -/
def State.bringsDigit (s : State) (n : LineNo) (answer : Option Byte) : Bool :=
  s.bringsMake n answer fun t ms =>
    decide (t.stateOf n = .dialing) && decide ((t.profileOf n).idt ≤ ms) &&
      ((t.line n).sup.errorSkip || decide ((t.line n).sup.pulseCount ≠ 0))

/-- R115, R117: a make reaches SQ in RING WAIT, or in RINGING before the first burst. -/
def State.bringsAnswerBeforeRing (s : State) (n : LineNo) (answer : Option Byte) : Bool :=
  s.bringsMake n answer fun t ms =>
    decide ((t.profileOf n).sq ≤ ms) &&
      (decide (t.stateOf n = .ringWait) ||
        (decide (t.stateOf n = .ringing) && (t.bookingOf n).any fun b => !b.firstBurst))

/-- R67, R74, R78, R80, R81: the deadline of this kind expires in the state that keeps it. -/
def State.bringsExpiry (s : State) (n : LineNo) (answer : Option Byte) (kind : DeadlineKind)
    (st : LineState) : Bool :=
  let t := (s.delivered n).afterItems n (sampleOf answer)
  s.delivers n && decide (t.deadlineDue n = some kind) && decide (t.stateOf n = st)

/-- R118: the guard ends at this arrival. -/
def State.bringsGuardEnd (s : State) (n : LineNo) : Bool :=
  s.delivers n && ((s.line n).guardOver (s.arrivalInstant n)).isSome

/-- R137: the arrival is the eighth measuring sample. -/
def State.bringsTestEnd (s : State) (n : LineNo) (answer : Option Byte) : Bool :=
  s.delivers n &&
    ((s.line n).measured (s.arrivalInstant n) (sampleOf answer)).any fun t =>
      decide (Config.eightSamples ≤ t.count)

/-- A row that names what an arrival brings about: the whole arrival where it does, and no change where
it does not (log 6). -/
def State.arrivalIf (s : State) (due : Bool) (n : LineNo) (answer : Option Byte) : State :=
  if due then s.arrival n answer else s

end Sys2Proof.Machine
end

