-- ==== Sys2Proof/Machine/Orders.lean ====
section
/-! DEFINITION. The orders: what each owner makes of its kind, the ORDER report, and a visit of Order
Intake (R10 to R13, R82 to R85, R105 to R108, R136, R141). -/

namespace Sys2Proof.Machine

/-- What an owner makes of an order: the outcome, the state with the order's immediate effect, and the
reports that the order itself causes, which follow its ORDER report (R13). -/
structure Answer where
  outcome : OrderOutcome
  state : State
  follow : List Report
  deriving DecidableEq, Repr

/-- A refused order changes nothing (R82, R105, R136). -/
def State.refuse (s : State) (outcome : OrderOutcome) : Answer :=
  { outcome := outcome, state := s, follow := [] }

/-- An order accepted with this effect and no report of its own. -/
def State.accept (s : State) : Answer := { outcome := .accepted, state := s, follow := [] }

/-! ### NOTE and refused kinds (R12) -/

/-- R12: a NOTE is accepted in every state and changes nothing. -/
def State.orderNote (s : State) (_n : LineNo) : Answer := s.accept

/-- R12: a kind code from 8 to 255 is refused. -/
def State.orderBadKind (s : State) (_n : LineNo) : Answer := s.refuse .refusedBadKind

/-! ### The orders of supervision (R82 to R85) -/

/-- R82: SERVICE ON. -/
def State.orderServiceOn (s : State) (n : LineNo) : Answer :=
  if s.stateOf n = .outOfService then
    if s.cardPresent n then (s.updLine n Line.enterLearning).accept
    else s.refuse .refusedNoCard
  else s.accept

/-- R82, R138: SERVICE OFF takes the line to OUT OF SERVICE at once; its booking or wait entry is
removed with no ring report, and a test is abandoned. -/
def State.orderServiceOff (s : State) (n : LineNo) : Answer :=
  if s.stateOf n = .outOfService then s.accept
  else
    { outcome := .accepted
      state := ((s.dropBookings (· = n)).dropWaits (· = n)).updLine n Line.outOfService
      follow := if s.stateOf n = .testing then [.testResult .abandoned 0] else [] }

/-- R82: SERVICE, by its service value; a value above 1 is no encoding. -/
def State.orderService (s : State) (n : LineNo) (value : Byte) : Answer :=
  if value = 0 then s.orderServiceOff n
  else if value = 1 then s.orderServiceOn n
  else s.refuse .refusedField

/-- A lead's encoding (Layouts). -/
def leadOf (b : Byte) : Lead := if b = 0 then .a else if b = 1 then .b else .bridged

/-- R83: the party's ring code and lead are encodings. -/
def partyGood (b : PartyBytes) : Bool := decide (b.code.toNat ≤ 15) && decide (b.lead.toNat ≤ 2)

/-- R83: the field checks of a CONFIGURE. -/
def configGood (c : ConfigBytes) : Bool :=
  decide (c.profile.toNat ≤ 7) && (List.finRange 4).all fun p : Fin 4 => partyGood c.parties[p]

/-- R83: the party entry that good bytes give; a load above 40 RU is clamped. -/
def partyGiven (b : PartyBytes) : Party :=
  { code := Fin.ofNat 16 b.code.toNat, load := min 40 b.load.toNat, lead := leadOf b.lead }

/-- R83: some load is clamped. -/
def configClamps (c : ConfigBytes) : Bool :=
  (List.finRange 4).any fun p : Fin 4 => decide (40 < c.parties[p].load.toNat)

/-- R83: the profile index that good bytes give. -/
def profileGiven (c : ConfigBytes) : Fin 8 := Fin.ofNat 8 c.profile.toNat

/-- R83: the working configuration is replaced as a whole. -/
def Line.installConfig (l : Line) (c : ConfigBytes) : Line :=
  { l with
    sup.profile := profileGiven c
    sup.parties := Vector.ofFn fun p : Fin 4 => partyGiven c.parties[p] }

/-- R83: the outcome of an accepted CONFIGURE. -/
def configOutcome (c : ConfigBytes) : OrderOutcome :=
  if configClamps c then .acceptedAdjusted else .accepted

/-- R82, R83: CONFIGURE. -/
def State.orderConfigure (s : State) (n : LineNo) (c : ConfigBytes) : Answer :=
  if !configGood c then s.refuse .refusedField
  else
    match s.stateOf n with
    | .outOfService =>
      { outcome := configOutcome c, state := s.updLine n fun l => l.installConfig c, follow := [] }
    | .idle =>
      { outcome := configOutcome c
        state := s.updLine n fun l =>
          if profileGiven c = l.sup.profile then l.installConfig c
          else (l.installConfig c).enterLearning
        follow := [] }
    | _ => s.refuse .refusedState

/-- R84: CONNECT. -/
def State.orderConnect (s : State) (n : LineNo) : Answer :=
  match s.stateOf n with
  | .dialTone => (s.updLine n fun l => l.enterFresh .inCall .none).accept
  | .dialing => (s.updLine n fun l => l.enterFresh .inCall .none).accept
  | .inCall => s.accept
  | _ => s.refuse .refusedState

/-- R80, R85: the line goes to CLEARDOWN with the chosen tone, or to IDLE, by its confirmed state. -/
def State.releaseLine (s : State) (n : LineNo) (tone : Tone) : State :=
  match (s.line n).cls.confirmed with
  | .closed =>
    s.updLine n fun l => (l.enterFresh .cleardown tone).setDeadline .cdt s.shelfTime (s.profileOf n).cdt
  | .opened => s.updLine n fun l => l.enterFresh .idle .none

/-- R82, R85: RELEASE; a release tone above 1 is no encoding.  DESIGN CHOICE (log 29): R86 speaks of a RELEASE
taken before a CDT expiry as one that moves the line, and R80, R82 and R85 refuse RELEASE in CLEARDOWN; it is
refused there, and the CDT deadline stands. -/
def State.orderRelease (s : State) (n : LineNo) (tone : Byte) : Answer :=
  if 1 < tone.toNat then s.refuse .refusedField
  else
    let chosen : Tone := if tone = 0 then .busy else .none
    match s.stateOf n with
    | .dialTone => (s.releaseLine n chosen).accept
    | .dialing => (s.releaseLine n chosen).accept
    | .inCall => (s.releaseLine n chosen).accept
    | .idle => s.accept
    | _ => s.refuse .refusedState

/-! ### RING and STOP (R95, R105 to R108) -/

/-- R95: the party check for an encoded party; `none` is a pass. -/
def State.partyCheck (s : State) (n : LineNo) (p : Fin 4) : Option OrderOutcome :=
  if s.loadOf n p = 0 then some .refusedField
  else if s.control.params.capacity < s.loadOf n p then some .refusedCapacity
  else none

/-- R106: a RING accepted in IDLE: the party is booked, or joins the wait list. -/
def State.ringIdle (s : State) (n : LineNo) (p : Fin 4) (maxFrames : Nat) (outcome : OrderOutcome) :
    Answer :=
  if s.source.state = .running then
    match s.search n p (s.sched.slot + 1) with
    | some r =>
      { outcome := outcome
        state := s.book n p r maxFrames
        follow := [.ringBooked ((r - s.sched.slot - 1).val + 1) r] }
    | none =>
      { outcome := outcome
        state := s.waitAtTail n p maxFrames
        follow := [.ringQueued .noRoom (waitPosition (s.waitAtTail n p maxFrames).sched.waits n)] }
  else
    { outcome := outcome
      state := s.waitAtTail n p maxFrames
      follow := [.ringQueued .sourceDown (waitPosition (s.waitAtTail n p maxFrames).sched.waits n)] }

/-- R107: a RING accepted in RINGING is the booking's pending change. -/
def State.ringAgain (s : State) (n : LineNo) (p : Fin 4) (maxFrames : Nat) : State :=
  s.updBooking n fun b =>
    { b with change := some { party := p, maxFrames := maxFrames, origin := .order } }

/-- R107: a RING accepted in RING WAIT replaces the entry's party and max frames. -/
def State.ringWaiting (s : State) (n : LineNo) (p : Fin 4) (maxFrames : Nat) : State :=
  { s with sched.waits := s.sched.waits.map fun e =>
      if e.line = n then { e with party := p, maxFrames := maxFrames } else e }

/-- R105: a RING for an encoded party, checks 2 to 5. -/
def State.ringParty (s : State) (n : LineNo) (p : Fin 4) (maxFrames : Byte) : Answer :=
  if !s.cardPresent n then s.refuse .refusedNoCard
  else if s.stateOf n ≠ .idle ∧ s.stateOf n ≠ .ringing ∧ s.stateOf n ≠ .ringWait then
    s.refuse .refusedState
  else
    match s.partyCheck n p with
    | some outcome => s.refuse outcome
    | none =>
      let frames := min 60 maxFrames.toNat
      let outcome : OrderOutcome := if 60 < maxFrames.toNat then .acceptedAdjusted else .accepted
      match s.stateOf n with
      | .ringing => { outcome := outcome, state := s.ringAgain n p frames, follow := [] }
      | .ringWait => { outcome := outcome, state := s.ringWaiting n p frames, follow := [] }
      | _ => s.ringIdle n p frames outcome

/-- R105: RING; a party value above 3 is refused first. -/
def State.orderRing (s : State) (n : LineNo) (party maxFrames : Byte) : Answer :=
  if h : party.toNat < 4 then s.ringParty n ⟨party.toNat, h⟩ maxFrames
  else s.refuse .refusedField

/-- R108: a guard that was to join the wait list is retargeted to IDLE; any other is left. -/
def GuardRecord.stopped (g : GuardRecord) : GuardRecord :=
  match g.target with
  | .ringWait _ _ _ => { g with target := .idle }
  | .inCall => g
  | .idle => g

/-- R108: STOP. -/
def State.orderStop (s : State) (n : LineNo) : Answer :=
  match s.stateOf n with
  | .ringing => ((s.dropBookings (· = n)).ringToIdle n).accept
  | .ringWait => ((s.dropWaits (· = n)).updLine n fun l => l.enterFresh .idle .none).accept
  | .ringGuard =>
    (s.updLine n fun l => { l with sup.guardRecord := l.sup.guardRecord.map GuardRecord.stopped }).accept
  | _ => s.refuse .refusedState

/-! ### TEST (R136) -/

/-- R136: an accepted TEST: the line is TESTING, the test relay operated, the record made. -/
def Line.startTest (l : Line) (now : Instant) : Line :=
  { l.enterFresh .testing .none with
    rel.testRelay := true
    rel.test := some { settleEnd := laterBy now Config.settleMs, count := 0, sum := 0 } }

/-- R136: TEST, taken at `now`. -/
def State.orderTest (s : State) (n : LineNo) (now : Instant) : Answer :=
  if !s.cardPresent n then s.refuse .refusedNoCard
  else if s.stateOf n ≠ .idle then s.refuse .refusedState
  else (s.updLine n fun l => l.startTest now).accept

/-! ### Taking an order (R11 to R13) -/

/-- R12: the owner's answer to an order taken at `now`. -/
def State.answer (s : State) (n : LineNo) (o : Order) (now : Instant) : Answer :=
  match o with
  | .note => s.orderNote n
  | .service value => s.orderService n value
  | .configure bytes => s.orderConfigure n bytes
  | .ring party maxFrames => s.orderRing n party maxFrames
  | .stop => s.orderStop n
  | .connect => s.orderConnect n
  | .release tone => s.orderRelease n tone
  | .test => s.orderTest n now
  | .badKind _ => s.orderBadKind n

/-- R11, R13: an order with sequence `seq` and kind code `kind`, answered by its owner: the taken
sequence and the last order outcome are recorded, the ORDER report is appended after the owner's
effect, and then the reports that the order itself causes. -/
def Answer.taken (a : Answer) (n : LineNo) (kind seq : Byte) : State :=
  a.follow.foldl (fun s r => s.report n r)
    ((a.state.updLine n fun l => { l with takenSeq := seq, lastOutcome := some a.outcome }).report n
      (.order a.outcome kind seq))

/-- R10, R11: an order with sequence `seq` is taken from line n's mailbox only while the shelf is
RUNNING, and only if the sequence differs from the taken one. -/
def State.takesOrder (s : State) (n : LineNo) (seq : Byte) : Bool :=
  decide (s.control.shelf = .running) && decide (seq ≠ (s.line n).takenSeq)

/-- An order's row: the order is taken and acted on; where it cannot be taken nothing changes (log 8). -/
def State.order (s : State) (n : LineNo) (kind seq : Byte) (a : Answer) : State :=
  if s.takesOrder n seq then a.taken n kind seq else s

/-! ### A visit (R10, R11, R141) -/

/-- R141: the taken count read at a visit: stored, and compared with the written count. -/
def Reckoning.visited (k : Reckoning) (taken : Byte) : Reckoning :=
  let k' := { k with taken := taken }
  if k'.pending = 0 then { k' with attention := false, countFault := false }
  else if Config.listDepth < k'.pending then { k' with countFault := true }
  else k'

/-- R10, R141, R143: the taken count of line n is read and handed to the Report Writer; clearing the
latched line's bit empties the latch. -/
def State.readTakenCount (s : State) (n : LineNo) : State :=
  let s1 := s.updLine n fun l => { l with rep := l.rep.visited (s.takenCount n) }
  { s1 with
    latch := if s.latch = some n ∧ (s1.line n).rep.attention = false then none else s.latch }

/-- R11: the consistent read of line n's mailbox, taken at `now`: the sequence, then the fields, then the
sequence again.  The writes `early` land before the read of the fields and `late` after it.  The order is
taken if the two sequence reads agree and differ from the taken sequence. -/
def State.consistentRead (s : State) (n : LineNo) (now : Instant) (early late : List BusWrite) :
    State :=
  let seq1 := s.mailSequence n
  let fields := s.writes early
  let s2 := fields.writes late
  if seq1 ≠ (s.line n).takenSeq ∧ s2.mailSequence n = seq1 then
    (s2.answer n (fields.mailOrder n) now).taken n (fields.mailOrder n).kind seq1
  else s2

/-- R10: a visit of Order Intake at `now`: the taken count, then, only while the shelf is RUNNING, the
mailbox, then the next line. -/
def State.visit (s : State) (now : Instant) (early late : List BusWrite) : State :=
  let n := s.visitPointer
  let s1 := s.readTakenCount n
  let s2 := if s1.control.shelf = .running then s1.consistentRead n now early late
    else s1.landed early late
  { s2 with visitPointer := n + 1 }

end Sys2Proof.Machine
end

