-- ==== Sys2Proof/Machine/Shelf.lean ====
section
/-! DEFINITION. Shelf Control and the cards: the shelf control register, start, halt, soft reset, the
end of STARTING, and card presence (chapters 2 and 3). -/

namespace Sys2Proof.Machine

/-! ### The shelf control register (R7, R16 to R19) -/

/-- R18, R122: the monitor after a halt. -/
def SourceMonitor.idle : SourceMonitor := .lost .absent

/-- R18: the scheduler after a halt: the slot clock stands, the lists and the table are empty. -/
def Scheduler.idle : Scheduler :=
  { slot := 0, nextBoundary := none, loads := Vector.replicate 12 0, bookings := [], waits := [] }

/-- R18: the effects of a halt, whole. -/
def State.haltShelf (s : State) : State :=
  { s.mapLines (fun _ l => l.halted) with
    control.shelf := .halted
    control.startingEnd := none
    sched := .idle
    source := .idle }

/-- R16: RUN sends a line that is not OUT OF SERVICE to LEARNING. -/
def Line.startRun (l : Line) : Line := if l.sup.state = .outOfService then l else l.enterLearning

/-- R16: setting RUN while HALTED starts the shelf: STARTING, a parameter load, LEARNING, and the
Monitor from ABSENT.  The writes meet the load (R20). -/
def State.startShelf (s : State) (early late : List BusWrite) : State :=
  { (s.loadMeeting early late).mapLines (fun _ l => l.startRun) with
    control.shelf := .starting
    control.startingEnd := some (s.shelfTime + Config.startingMs)
    source := .idle }

/-- R19: the reckoning after a soft reset: written count and taken count last read are the taken count
read at the reset; the entries stay in the list bytes. -/
def Reckoning.softReset (k : Reckoning) (taken : Byte) : Reckoning :=
  { k with written := taken, taken := taken, dropped := 0, countFault := false, attention := false }

/-- R19: what a soft reset makes of a halted line. -/
def Line.softReset (l : Line) (taken : Byte) : Line :=
  { l with
    cls := { l.cls with baseline := 0, leakageHigh := false }
    sup := { l.sup with state := .outOfService, profile := 0, parties := Vector.replicate 4 .zero }
    rep := l.rep.softReset taken }

/-- R19: a soft reset, in any shelf state: the effects of a halt, then the lines, the report reckoning,
attention and the control register. -/
def State.softReset (s : State) : State :=
  { s.haltShelf.mapLines (fun n l => l.softReset (s.takenCount n)) with
    latch := none
    port := { s.port with run := false, interruptEnable := false } }

/-- R7: a write of the shelf control register without SOFT RESET: the two bits are stored; setting RUN
while HALTED starts the shelf, clearing it while STARTING or RUNNING halts it.  The writes `early` and
`late` are those that meet the load of a start (R20); without one they land all the same (log 28). -/
def State.writeControl (s : State) (run interruptEnable : Bool) (early late : List BusWrite) : State :=
  let s1 := { s with port.run := run, port.interruptEnable := interruptEnable }
  if run then
    if s.control.shelf = .halted then s1.startShelf early late else s1.landed early late
  else if s.control.shelf = .halted then s1 else s1.haltShelf

/-- R17: the 16 ms of STARTING have run. -/
def State.startingOver (s : State) : Bool :=
  decide (s.control.shelf = .starting) &&
    s.control.startingEnd.any fun t => decide (t ≤ s.shelfTime)

/-- R17, R91: the shelf enters RUNNING, and the slot clock starts with a boundary that starts slot 0. -/
def State.enterRunning (s : State) (early late : List BusWrite) : State :=
  { s with control.shelf := .running, control.startingEnd := none }.boundary true s.shelfTime early late

/-! ### Reads of the registers (R8, R143) -/

/-- R8: a read of the shelf status register returns both flags as they stand and clears them. -/
def State.readStatus (s : State) : State :=
  { s with
    port.readData := s.statusWord
    port.writeDiscarded := false
    port.parametersAdjusted := false }

/-- R143: the line a read of the attention register finds latched: the one it held, or the
lowest-numbered line whose bit is set. -/
def State.latchAfterRead (s : State) : Option LineNo :=
  s.latch.orElse fun _ => (List.finRange 64).find? s.attentionBit

/-- R143: a read of the attention register acts on the latch, then returns it with the count. -/
def State.readAttention (s : State) : State :=
  let s1 := { s with latch := s.latchAfterRead }
  { s1 with port.readData := s1.attentionWord }

/-! ### Card presence (R27 to R33) -/

/-- Change one card slot. -/
def State.updSlot (s : State) (c : CardNo) (f : CardSlot → CardSlot) : State :=
  { s with slots := s.slots.set c (f s.slots[c]) }

/-- R27: a presence input that changes level sets or clears the deadline; a level it already shows is no
change. -/
def CardSlot.changed (k : CardSlot) (seated : Bool) (now : Nat) : CardSlot :=
  if k.seated = seated then k
  else
    { k with
      seated := seated
      deadline :=
        match k.presence, k.deadline with
        | .present, none => if seated then none else some (now + Config.lossMs)
        | .present, some d => if seated then none else some d
        | .absent, none => if seated then some (now + Config.returnMs) else none
        | .absent, some d => if seated then some d else none }

/-- R27: the slot's deadline has been reached in this presence state. -/
def State.slotDue (s : State) (c : CardNo) (p : Presence) : Bool :=
  decide (s.slots[c].presence = p) && s.slots[c].deadline.any fun t => decide (t ≤ s.shelfTime)

/-- R29, R31: what a card lost declaration makes of a line of the card, with its reports. -/
def Line.cardLost (l : Line) (p : Params) (time : Nat) : Line :=
  let l' := l.outOfService
  let l'' := if l.sup.state = .testing then l'.append p time (.testResult .abandoned 0) .outOfService else l'
  l''.append p time .cardLost .outOfService

/-- R29 to R31: the card of slot c is lost. -/
def State.loseCard (s : State) (c : CardNo) : State :=
  let s1 := s.updSlot c fun k => { k with presence := .absent, deadline := none }
  ((s1.dropBookings fun n => decide (cardOf n = c)).dropWaits fun n => decide (cardOf n = c)).mapLines
    fun n l => if cardOf n = c then l.cardLost s.control.params s.shelfTime else l

/-- R33: the words sent to a card that is back, newest first: every element released and no tone. -/
def releasedWords (c : CardNo) : List RelayWord :=
  ((List.finRange 64).filter fun n => decide (cardOf n = c)).reverse.map fun n =>
    { line := n, setting := .released }

/-- R33: the card of slot c is back. -/
def State.returnCard (s : State) (c : CardNo) : State :=
  let s1 := s.updSlot c fun k => { k with presence := .present, deadline := none }
  let s2 := s1.mapLines fun n l =>
    if cardOf n = c then l.append s.control.params s.shelfTime .cardBack .outOfService else l
  { s2 with sent := releasedWords c ++ s2.sent }

end Sys2Proof.Machine
end

