-- ==== Sys2Proof/Machine/PortCommands.lean ====
section
/-! DEFINITION. The meanings of the power, time and bus commands, and of the end of STARTING. -/

namespace Sys2Proof.Machine

/-- The outcome of a meaning. -/
abbrev Result := Host.Outcome State Fault Refusal

/-- POWER_ON (R15, R28): the part as power-on leaves it; the queue is not the part's. -/
def execPowerOn (seated : Byte) (s : State) : Result :=
  .next { State.powerOn seated with pending := s.pending }

/-- SHELF_TIME_TICK (R4): shelf time advances by one millisecond. -/
def execShelfTimeTick (s : State) : Result := .next { s with shelfTime := s.shelfTime + 1 }

/-- WORK_MEMORY_WRITE (R2). -/
def execWorkMemoryWrite (w : BusWrite) (s : State) : Result := .next (s.writeWorkMemory w)

/-- RUN (R7, R16), with the writes that meet its load (R20). -/
def execRun (interruptEnable : Bool) (s : State) (early late : List BusWrite := []) : Result :=
  .next (s.writeControl true interruptEnable early late)

/-- HALT (R7, R18). -/
def execHalt (interruptEnable : Bool) (s : State) : Result :=
  .next (s.writeControl false interruptEnable [] [])

/-- SOFT_RESET (R7, R19): a soft reset alone, whatever the write held in the other two bits. -/
def execSoftReset (_run _interruptEnable : Bool) (s : State) : Result := .next s.softReset

/-- INTERRUPT_ENABLE (R7, R144): a write that leaves RUN as it stands. -/
def execInterruptEnable (value : Bool) (s : State) : Result :=
  .next (s.writeControl s.port.run value [] [])

/-- SHELF_STATUS_READ (R8). -/
def execShelfStatusRead (s : State) : Result := .next s.readStatus

/-- ATTENTION_REGISTER_READ (R143). -/
def execAttentionRegisterRead (s : State) : Result := .next s.readAttention

/-- REGISTER_WRITE_IGNORED (R1, R8, R9): the write is ignored and sets no flag. -/
def execRegisterWriteIgnored (_w : BusWrite) (s : State) : Result := .next s

/-- STARTING_END (R17): the shelf enters RUNNING once the 16 ms have run; the writes are those that meet
a load at its boundary (R20, R22). -/
def execStartingEnd (s : State) (early late : List BusWrite := []) : Result :=
  .next (if s.startingOver then s.enterRunning early late else s.landed early late)

end Sys2Proof.Machine
end

