-- ==== Sys2Proof/Machine/CardCommands.lean ====
section
/-! DEFINITION. The meanings of the card commands. -/

namespace Sys2Proof.Machine

/-- PRESENCE_CHANGE (R27). -/
def execPresenceChange (c : CardNo) (seated : Bool) (s : State) : Result :=
  .next (s.updSlot c fun k => k.changed seated s.shelfTime)

/-- CARD_LOST (R27, R29 to R31): the deadline of a PRESENT slot expires. -/
def execCardLost (c : CardNo) (s : State) : Result :=
  .next (if s.slotDue c .present then s.loseCard c else s)

/-- CARD_BACK (R27, R33): the deadline of an ABSENT slot expires. -/
def execCardBack (c : CardNo) (s : State) : Result :=
  .next (if s.slotDue c .absent then s.returnCard c else s)

end Sys2Proof.Machine
end

