-- ==== Sys2Proof/Machine/OrderCommands.lean ====
section
/-! DEFINITION. The meanings of a visit of Order Intake and of the ten rows for orders. -/

namespace Sys2Proof.Machine

/-- ORDER_INTAKE_VISIT (R10, R11, R141). -/
def execOrderIntakeVisit (us : Fin 1000) (early late : List BusWrite) (s : State) : Result :=
  .next (s.visit (s.instantAt us) early late)

/-- NOTE (R12). -/
def execNote (n : LineNo) (seq : Byte) (s : State) : Result :=
  .next (s.order n 0 seq (s.orderNote n))

/-- BAD_KIND (R12): a kind code from 8 to 255. -/
def execBadKind (n : LineNo) (seq kind : Byte) (s : State) : Result :=
  .next (if 8 ≤ kind.toNat then s.order n kind seq (s.orderBadKind n) else s)

/-- SERVICE_ON (R82). -/
def execServiceOn (n : LineNo) (seq : Byte) (s : State) : Result :=
  .next (s.order n 1 seq (s.orderServiceOn n))

/-- SERVICE_OFF (R82, R138). -/
def execServiceOff (n : LineNo) (seq : Byte) (s : State) : Result :=
  .next (s.order n 1 seq (s.orderServiceOff n))

/-- CONFIGURE (R83). -/
def execConfigure (n : LineNo) (seq : Byte) (bytes : ConfigBytes) (s : State) : Result :=
  .next (s.order n 2 seq (s.orderConfigure n bytes))

/-- RING (R105, R106, R107). -/
def execRing (n : LineNo) (seq party maxFrames : Byte) (s : State) : Result :=
  .next (s.order n 3 seq (s.orderRing n party maxFrames))

/-- STOP (R108). -/
def execStop (n : LineNo) (seq : Byte) (s : State) : Result :=
  .next (s.order n 4 seq (s.orderStop n))

/-- CONNECT (R84). -/
def execConnect (n : LineNo) (seq : Byte) (s : State) : Result :=
  .next (s.order n 5 seq (s.orderConnect n))

/-- RELEASE (R85). -/
def execRelease (n : LineNo) (seq tone : Byte) (s : State) : Result :=
  .next (s.order n 6 seq (s.orderRelease n tone))

/-- TEST (R136). -/
def execTest (n : LineNo) (seq : Byte) (us : Fin 1000) (s : State) : Result :=
  .next (s.order n 7 seq (s.orderTest n (s.instantAt us)))

end Sys2Proof.Machine
end

