-- ==== Sys2Proof/Machine/RingCommands.lean ====
section
/-! DEFINITION. The meanings of the slot boundary and the ring source commands. The rows that name what
a boundary or a crossing brings about are that whole operation where it comes about, and nothing but the
writes they carry where it does not (logs 7 and 28). -/

namespace Sys2Proof.Machine

/-- R91, R109: the slot boundary that is due, if one is, met by the writes `early` and `late` (R20);
without one the writes land all the same (log 28). -/
def State.takeBoundary (s : State) (early late : List BusWrite) : State :=
  match s.boundaryDue with
  | some t => s.boundary false t early late
  | none => s.landed early late

/-- R110: the boundary that is due ends the frame at which line n's booking reaches its max frames. -/
def State.bringsRingEnd (s : State) (n : LineNo) : Bool :=
  s.boundaryDue.isSome &&
    (s.bookingOf n).any fun b => b.endsAt (s.nextSlot false) && b.reachesLimit

/-- R113: the boundary that is due is a frame boundary at which line n's wait entry reaches the wait
limit. -/
def State.bringsWaitLimit (s : State) (n : LineNo) : Bool :=
  s.boundaryDue.isSome && decide (s.nextSlot false = 0) &&
    (s.waitOf n).any fun e => decide (s.control.params.waitLimit ≤ e.framesWaited + 1)

/-- SLOT_BOUNDARY (R109). -/
def execSlotBoundary (s : State) (early late : List BusWrite := []) : Result :=
  .next (s.takeBoundary early late)

/-- RING_END_NO_ANSWER (R110). -/
def execRingEndNoAnswer (n : LineNo) (s : State) (early late : List BusWrite := []) : Result :=
  .next (if s.bringsRingEnd n then s.takeBoundary early late else s.landed early late)

/-- RING_END_WAIT_LIMIT (R113). -/
def execRingEndWaitLimit (n : LineNo) (s : State) (early late : List BusWrite := []) : Result :=
  .next (if s.bringsWaitLimit n then s.takeBoundary early late else s.landed early late)

/-- CROSSING (R123); a pulse that arrives while the shelf is HALTED leaves no trace (R122). -/
def execCrossing (us : Fin 1000) (s : State) : Result :=
  .next (if s.takesCrossings then s.takeCrossing (s.instantAt us) else s)

/-- SOURCE_QUALIFIED (R123): the crossing that brings the good-crossing count to 8. -/
def execSourceQualified (us : Fin 1000) (s : State) : Result :=
  .next (if s.qualifiesAt (s.instantAt us) then s.takeCrossing (s.instantAt us) else s)

/-- LOSS_DEADLINE_EXPIRY (R124 to R126). -/
def execLossDeadlineExpiry (us : Fin 1000) (s : State) : Result :=
  .next (if s.lossDue (s.instantAt us) then s.expireLoss (s.instantAt us) else s)

end Sys2Proof.Machine
end

