-- ==== Sys2Proof/Machine/SampleCommands.lean ====
section
/-! DEFINITION. The meanings of a sample arrival and of the fourteen rows that name what an arrival
brings about: each is the whole arrival where it comes about, and no change where it does not
(log 6). -/

namespace Sys2Proof.Machine

/-- SAMPLE_ARRIVAL (R24, R40). -/
def execSampleArrival (n : LineNo) (answer : Option Byte) (s : State) : Result :=
  .next (s.arrival n answer)

/-- LEARNING_END (R43): the eighth learning sample. -/
def execLearningEnd (n : LineNo) (answer : Option Byte) (s : State) : Result :=
  .next (s.arrivalIf (s.bringsLearned n answer) n answer)

/-- CONFIRMED_OPEN (R45, R52): a raw-open run reaches D. -/
def execConfirmedOpen (n : LineNo) (answer : Option Byte) (s : State) : Result :=
  .next (s.arrivalIf (s.bringsOpen n answer) n answer)

/-- CONFIRMED_CLOSE (R45, R52, R56, R57): a raw-closed run reaches D. -/
def execConfirmedClose (n : LineNo) (answer : Option Byte) (s : State) : Result :=
  .next (s.arrivalIf (s.bringsClose n answer) n answer)

/-- CLEAR (R54, R55): a break outlasts FLmax. -/
def execClear (n : LineNo) (answer : Option Byte) (s : State) : Result :=
  .next (s.arrivalIf (s.bringsClear n answer) n answer)

/-- SEIZE (R73): a make in SEIZING reaches SQ. -/
def execSeize (n : LineNo) (answer : Option Byte) (s : State) : Result :=
  .next (s.arrivalIf (s.bringsSeizure n answer) n answer)

/-- DIGIT (R77): a make in DIALING reaches IDT. -/
def execDigit (n : LineNo) (answer : Option Byte) (s : State) : Result :=
  .next (s.arrivalIf (s.bringsDigit n answer) n answer)

/-- ANSWER_BEFORE_RING (R115, R117): a make reaches SQ in RING WAIT, or in RINGING before the first
burst. -/
def execAnswerBeforeRing (n : LineNo) (answer : Option Byte) (s : State) : Result :=
  .next (s.arrivalIf (s.bringsAnswerBeforeRing n answer) n answer)

/-- TRIP (R48, R116): the trip-confirm count reaches its limit. -/
def execTrip (n : LineNo) (answer : Option Byte) (s : State) : Result :=
  .next (s.arrivalIf (s.bringsTrip n answer) n answer)

/-- FDT_EXPIRY (R74): FDT expires in DIAL TONE. -/
def execFdtExpiry (n : LineNo) (answer : Option Byte) (s : State) : Result :=
  .next (s.arrivalIf (s.bringsExpiry n answer .fdt .dialTone) n answer)

/-- PDT_EXPIRY (R78): PDT expires in DIALING. -/
def execPdtExpiry (n : LineNo) (answer : Option Byte) (s : State) : Result :=
  .next (s.arrivalIf (s.bringsExpiry n answer .pdt .dialing) n answer)

/-- CDT_EXPIRY (R80): CDT expires in CLEARDOWN. -/
def execCdtExpiry (n : LineNo) (answer : Option Byte) (s : State) : Result :=
  .next (s.arrivalIf (s.bringsExpiry n answer .cdt .cleardown) n answer)

/-- HOW_EXPIRY (R81): HOW expires in HOWLER. -/
def execHowExpiry (n : LineNo) (answer : Option Byte) (s : State) : Result :=
  .next (s.arrivalIf (s.bringsExpiry n answer .how .howler) n answer)

/-- GUARD_END (R118): the first arrival at or after the guard end. -/
def execGuardEnd (n : LineNo) (answer : Option Byte) (s : State) : Result :=
  .next (s.arrivalIf (s.bringsGuardEnd n) n answer)

/-- TEST_END (R137): the eighth measuring sample. -/
def execTestEnd (n : LineNo) (answer : Option Byte) (s : State) : Result :=
  .next (s.arrivalIf (s.bringsTestEnd n answer) n answer)

end Sys2Proof.Machine
end

