-- ==== Sys2Proof/Machine/Dispatch.lean ====
section
/-! DEFINITION. The meaning of each command: one arm per row of spec/opcode_table.json. -/

namespace Sys2Proof.Machine

def exec (i : Instr) (s : State) : Host.Outcome State Fault Refusal :=
  match i with
  | .powerOn seated => Sys2Proof.Machine.execPowerOn seated s
  | .shelfTimeTick => Sys2Proof.Machine.execShelfTimeTick s
  | .workMemoryWrite w => Sys2Proof.Machine.execWorkMemoryWrite w s
  | .run interruptEnable early late => Sys2Proof.Machine.execRun interruptEnable s early late
  | .halt interruptEnable => Sys2Proof.Machine.execHalt interruptEnable s
  | .softReset run interruptEnable => Sys2Proof.Machine.execSoftReset run interruptEnable s
  | .interruptEnable value => Sys2Proof.Machine.execInterruptEnable value s
  | .shelfStatusRead => Sys2Proof.Machine.execShelfStatusRead s
  | .attentionRegisterRead => Sys2Proof.Machine.execAttentionRegisterRead s
  | .registerWriteIgnored w => Sys2Proof.Machine.execRegisterWriteIgnored w s
  | .startingEnd early late => Sys2Proof.Machine.execStartingEnd s early late
  | .orderIntakeVisit us early late => Sys2Proof.Machine.execOrderIntakeVisit us early late s
  | .note n seq => Sys2Proof.Machine.execNote n seq s
  | .badKind n seq kind => Sys2Proof.Machine.execBadKind n seq kind s
  | .serviceOn n seq => Sys2Proof.Machine.execServiceOn n seq s
  | .serviceOff n seq => Sys2Proof.Machine.execServiceOff n seq s
  | .configure n seq bytes => Sys2Proof.Machine.execConfigure n seq bytes s
  | .ring n seq party maxFrames => Sys2Proof.Machine.execRing n seq party maxFrames s
  | .stop n seq => Sys2Proof.Machine.execStop n seq s
  | .connect n seq => Sys2Proof.Machine.execConnect n seq s
  | .release n seq tone => Sys2Proof.Machine.execRelease n seq tone s
  | .test n seq us => Sys2Proof.Machine.execTest n seq us s
  | .sampleArrival n answer => Sys2Proof.Machine.execSampleArrival n answer s
  | .learningEnd n answer => Sys2Proof.Machine.execLearningEnd n answer s
  | .confirmedOpen n answer => Sys2Proof.Machine.execConfirmedOpen n answer s
  | .confirmedClose n answer => Sys2Proof.Machine.execConfirmedClose n answer s
  | .clear n answer => Sys2Proof.Machine.execClear n answer s
  | .seize n answer => Sys2Proof.Machine.execSeize n answer s
  | .digit n answer => Sys2Proof.Machine.execDigit n answer s
  | .answerBeforeRing n answer => Sys2Proof.Machine.execAnswerBeforeRing n answer s
  | .trip n answer => Sys2Proof.Machine.execTrip n answer s
  | .fdtExpiry n answer => Sys2Proof.Machine.execFdtExpiry n answer s
  | .pdtExpiry n answer => Sys2Proof.Machine.execPdtExpiry n answer s
  | .cdtExpiry n answer => Sys2Proof.Machine.execCdtExpiry n answer s
  | .howExpiry n answer => Sys2Proof.Machine.execHowExpiry n answer s
  | .guardEnd n answer => Sys2Proof.Machine.execGuardEnd n answer s
  | .testEnd n answer => Sys2Proof.Machine.execTestEnd n answer s
  | .presenceChange c seated => Sys2Proof.Machine.execPresenceChange c seated s
  | .cardLost c => Sys2Proof.Machine.execCardLost c s
  | .cardBack c => Sys2Proof.Machine.execCardBack c s
  | .slotBoundary early late => Sys2Proof.Machine.execSlotBoundary s early late
  | .ringEndNoAnswer n early late => Sys2Proof.Machine.execRingEndNoAnswer n s early late
  | .ringEndWaitLimit n early late => Sys2Proof.Machine.execRingEndWaitLimit n s early late
  | .crossing us => Sys2Proof.Machine.execCrossing us s
  | .sourceQualified us => Sys2Proof.Machine.execSourceQualified us s
  | .lossDeadlineExpiry us => Sys2Proof.Machine.execLossDeadlineExpiry us s

end Sys2Proof.Machine
end

