-- ==== Sys2Proof/Safety.lean ====
section
/-! DEFINITION. What the manual says holds of the part at all times: the laws that its rules state across
every operation, as predicates of a state. -/

namespace Sys2Proof.Safety

open Sys2Proof.Machine

/-- The host-owned bytes are in their canonical form, so that equal memories are equal data. -/
abbrev MemoryCanonical (s : State) : Prop := Memory.wf s.port.mem = true

/-- R92: each slot load is the sum of the loads of the bookings that ring in that slot. -/
abbrev LoadsMatch (s : State) : Prop :=
  ∀ k : FrameSlot, s.sched.loads[k] = (s.sched.bookings.map fun b => b.contribution k).sum

/-- R92: in every slot, the slot load is at most the ring capacity in force. -/
abbrev WithinCapacity (s : State) : Prop :=
  ∀ k : FrameSlot, s.sched.loads[k] ≤ s.control.params.capacity

/-- R93: a line is in the booking list exactly when it is RINGING and in the wait list exactly when it is
in RING WAIT, and in neither list twice. -/
abbrev ListsMatchStates (s : State) : Prop :=
  (∀ n, n ∈ s.sched.bookings.map Booking.line ↔ s.stateOf n = .ringing) ∧
  (∀ n, n ∈ s.sched.waits.map WaitEntry.line ↔ s.stateOf n = .ringWait) ∧
  (s.sched.bookings.map Booking.line).Nodup ∧ (s.sched.waits.map WaitEntry.line).Nodup

/-- R129: a line's ring relay is operated, or has an action pending, only in RINGING or RING GUARD, and
there its tone selection is NONE and its test relay is released. -/
abbrev RelaysOnlyRinging (s : State) : Prop :=
  ∀ n, ((s.line n).relayBusy = true → s.stateOf n = .ringing ∨ s.stateOf n = .ringGuard) ∧
    (s.stateOf n = .ringing ∨ s.stateOf n = .ringGuard →
      (s.line n).rel.tone = .none ∧ (s.line n).rel.testRelay = false)

/-- R125, R127: while the ring source is not RUNNING there is no booking, and no ring relay is operated
or has an action pending. -/
abbrev NothingRingsWithoutSource (s : State) : Prop :=
  s.source.state ≠ .running → s.sched.bookings = [] ∧ ∀ n, (s.line n).relayBusy = false

/-- The state that keeps a deadline of this kind (R67). -/
def keeperOf : DeadlineKind → LineState
  | .fdt => .dialTone
  | .pdt => .dialing
  | .cdt => .cleardown
  | .how => .howler

/-- R67: no deadline outlives the state it belongs to. -/
abbrev DeadlinesKept (s : State) : Prop :=
  ∀ n, ∀ d ∈ (s.line n).sup.deadline, s.stateOf n = keeperOf d.1

/-- R103, R118: a line has a guard record exactly while it is in RING GUARD. -/
abbrev GuardsKept (s : State) : Prop :=
  ∀ n, (s.line n).sup.guardRecord.isSome = true ↔ s.stateOf n = .ringGuard

/-- R129, R136, R137: the test relay is operated, and the line test record is present, exactly while the
line is TESTING. -/
abbrev TestsKept (s : State) : Prop :=
  ∀ n, ((s.line n).rel.testRelay = true ↔ s.stateOf n = .testing) ∧
    ((s.line n).rel.test.isSome = true ↔ s.stateOf n = .testing)

/-- The tones a state may select (the summary table of chapter 6). -/
def toneFits : LineState → Tone → Bool
  | .dialTone, t => decide (t = .dial)
  | .howler, t => decide (t = .howler)
  | .cleardown, t => decide (t = .busy) || decide (t = .none)
  | _, t => decide (t = .none)

/-- R69: every line's tone selection is one its state selects. -/
abbrev TonesFit (s : State) : Prop :=
  ∀ n, toneFits (s.stateOf n) (s.line n).rel.tone = true

/-- R66, R75: the pulse count is at most 10, and a digit or error-skip stands only in DIALING, not both
at once. -/
abbrev DigitsBounded (s : State) : Prop :=
  ∀ n, (s.line n).sup.pulseCount ≤ 10 ∧
    ((s.line n).sup.pulseCount ≠ 0 → s.stateOf n = .dialing ∧ (s.line n).sup.errorSkip = false) ∧
    ((s.line n).sup.errorSkip = true → s.stateOf n = .dialing)

/-- R37, R50, R51, R64, R65, R87: what the statements ask of an installed profile: the orderings and the bounds
that they need. -/
def Installed (p : Profile) : Prop :=
  (1 ≤ p.d ∧ p.d ≤ 4) ∧ (10 ≤ p.sq ∧ p.sq ≤ 400 ∧ p.sq % 2 = 0) ∧
  (10 ≤ p.pbMin ∧ p.pbMin ≤ p.pbMax ∧ p.pbMax ≤ 150 ∧ p.pbMin % 2 = 0 ∧ p.pbMax % 2 = 0) ∧
  (p.pbMax < p.flMin ∧ p.flMin < p.flMax ∧ p.flMax ≤ 2000 ∧ p.flMin % 2 = 0 ∧ p.flMax % 2 = 0) ∧
  (100 ≤ p.flMax) ∧ (p.pbMax < p.idt ∧ p.idt ≤ 1000 ∧ p.idt % 2 = 0) ∧
  (2 ≤ p.fdt ∧ p.fdt ≤ 60) ∧ (2 ≤ p.pdt ∧ p.pdt ≤ 60) ∧ (2 ≤ p.cdt ∧ p.cdt ≤ 120) ∧
  (2 ≤ p.how ∧ p.how ≤ 120) ∧ (8 ≤ p.mc ∧ p.mc ≤ 120) ∧ (4 ≤ p.mo ∧ p.mo + 4 ≤ p.mc) ∧
  (16 ≤ p.mt ∧ p.mt ≤ 160) ∧ (8 ≤ p.ll ∧ p.ll ≤ 120) ∧
  (1 ≤ p.tripConfirm ∧ p.tripConfirm ≤ 8)

/-- R50, R64, R87: every field of the profile is in its range; no ordering adjustment carries one outside it
(R65). -/
def FieldsInRange (p : Profile) : Prop :=
  (1 ≤ p.d ∧ p.d ≤ 4) ∧ (10 ≤ p.sq ∧ p.sq ≤ 400) ∧ (10 ≤ p.pbMin ∧ p.pbMin ≤ 100) ∧
  (20 ≤ p.pbMax ∧ p.pbMax ≤ 150) ∧ (60 ≤ p.flMin ∧ p.flMin ≤ 1000) ∧
  (100 ≤ p.flMax ∧ p.flMax ≤ 2000) ∧ (60 ≤ p.idt ∧ p.idt ≤ 1000) ∧ (2 ≤ p.fdt ∧ p.fdt ≤ 60) ∧
  (2 ≤ p.cdt ∧ p.cdt ≤ 120) ∧ (2 ≤ p.how ∧ p.how ≤ 120) ∧ (8 ≤ p.mc ∧ p.mc ≤ 120) ∧
  (4 ≤ p.mo ∧ p.mo ≤ 116) ∧ (16 ≤ p.mt ∧ p.mt ≤ 160) ∧ (8 ≤ p.ll ∧ p.ll ≤ 120) ∧
  (1 ≤ p.tripConfirm ∧ p.tripConfirm ≤ 8) ∧ (2 ≤ p.pdt ∧ p.pdt ≤ 60)

/-- R21: what the installed general parameters satisfy. -/
def GeneralInRange (p : Params) : Prop :=
  p.capacity ≤ 1000 ∧ (10 ≤ p.guardTime ∧ p.guardTime ≤ 200 ∧ p.guardTime % 2 = 0) ∧
  (5 ≤ p.halfPeriod ∧ p.halfPeriod ≤ 40) ∧ (1 ≤ p.waitLimit ∧ p.waitLimit ≤ 20) ∧
  (1 ≤ p.priorityAge ∧ p.priorityAge ≤ 10) ∧ (p.testLow ≤ p.testHigh ∧ p.testHigh ≤ 255)

/-- R15, R20: the working parameters are always ones that a load leaves: every field in its range, in the
orderings of a load, and every installed mask *on* at mark 0 (R89). -/
def ParamsInRange (s : State) : Prop :=
  GeneralInRange s.control.params ∧
    (∀ i : Fin 8, FieldsInRange s.control.params.profiles[i] ∧ Installed s.control.params.profiles[i]) ∧
    ∀ c : Fin 16, s.control.params.masks[c][(0 : FrameSlot)] = true

/-- R143: a latched line has its attention bit set. -/
abbrev LatchHasAttention (s : State) : Prop :=
  ∀ n ∈ s.latch, s.attentionBit n = true

/-- R33, R34: every line of an absent card is OUT OF SERVICE. -/
abbrev AbsentLinesOut (s : State) : Prop :=
  ∀ n, s.cardPresent n = false → s.stateOf n = .outOfService

/-- R35, R43: the ranges of the classifier's values; a line in LEARNING has taken fewer than its eight
samples. -/
abbrev ClassifierInRange (s : State) : Prop :=
  ∀ n, (s.line n).cls.baseline ≤ 4080 ∧ (s.line n).cls.runCount ≤ 4 ∧
    (s.line n).cls.tripCount ≤ 8 ∧ (s.line n).cls.learnCount ≤ 8 ∧ (s.line n).cls.learnMin ≤ 255 ∧
    (s.stateOf n = .learning → (s.line n).cls.learnCount < 8)

/-- R7, R16, R18: RUN reads 1 exactly while the shelf is STARTING or RUNNING. -/
abbrev RunShowsShelf (s : State) : Prop := s.port.run = true ↔ s.control.shelf ≠ .halted

/-- R17, R91, R122: the end of STARTING stands exactly while STARTING, the slot clock runs exactly while
RUNNING and reads 0 otherwise, and in HALTED the source is ABSENT. -/
abbrev ShelfClocks (s : State) : Prop :=
  (s.control.startingEnd.isSome = true ↔ s.control.shelf = .starting) ∧
  (s.sched.nextBoundary.isSome = true ↔ s.control.shelf = .running) ∧
  (s.control.shelf ≠ .running → s.sched.slot = 0) ∧
  (s.control.shelf = .halted → s.source.state = .absent)

/-- R122, R123: the last crossing and the loss deadline are set exactly in QUALIFYING and RUNNING, and the
count is at most 8, below 8 while QUALIFYING. -/
abbrev SourceConsistent (s : State) : Prop :=
  (s.source.lastCrossing.isSome = true ↔
    s.source.state = .qualifying ∨ s.source.state = .running) ∧
  (s.source.lossDeadline.isSome = true ↔
    s.source.state = .qualifying ∨ s.source.state = .running) ∧
  s.source.goodCount ≤ 8 ∧ (s.source.state = .qualifying → s.source.goodCount < 8)

/-- R14, R16 to R18, R127: outside RUNNING both ring lists are empty and no line is in a ringing state, and
without a running source nothing is booked. -/
abbrev RingingOnlyWhileRunning (s : State) : Prop :=
  (s.control.shelf ≠ .running → s.sched.bookings = [] ∧ s.sched.waits = [] ∧
    ∀ n, s.stateOf n ≠ .ringWait ∧ s.stateOf n ≠ .ringing ∧ s.stateOf n ≠ .ringGuard) ∧
  (s.source.state ≠ .running → s.sched.bookings = [])

/-- R118, R132, R135: in RING GUARD a release at the crossing is pending exactly while the guard end is
clear, and the relay stands released once it is set. -/
abbrev GuardsAwaitRelease (s : State) : Prop :=
  ∀ n, ∀ g ∈ (s.line n).sup.guardRecord,
    (g.guardEnd = none → (s.line n).rel.pending = .release) ∧
    (g.guardEnd ≠ none → (s.line n).relayBusy = false)

/-- R77, R78: a line in DIALING has its PDT deadline exactly while no digit and no error-skip is in
progress. -/
abbrev DialingHasDeadline (s : State) : Prop :=
  ∀ n, s.stateOf n = .dialing → ((s.line n).sup.deadline.isSome = true ↔
    (s.line n).sup.pulseCount = 0 ∧ (s.line n).sup.errorSkip = false)

/-- R18, R24: while the shelf is HALTED every line is IDLE or OUT OF SERVICE. -/
abbrev HaltedLinesRest (s : State) : Prop :=
  s.control.shelf = .halted → ∀ n, s.stateOf n = .idle ∨ s.stateOf n = .outOfService

/-- The ring lists and the slot load table (R92, R93, R127). -/
def RingListsConsistent (s : State) : Prop :=
  LoadsMatch s ∧ WithinCapacity s ∧ ListsMatchStates s ∧ RingingOnlyWhileRunning s

/-- The relays, guards, tests and tones of the lines, and their states in HALTED (R18, R69, R103, R125, R127,
R129, R136). -/
def RelaysConsistent (s : State) : Prop :=
  RelaysOnlyRinging s ∧ NothingRingsWithoutSource s ∧ GuardsKept s ∧ GuardsAwaitRelease s ∧
    TestsKept s ∧ TonesFit s ∧ HaltedLinesRest s

/-- The digits and the deadlines of the lines (R66, R67, R75, R78). -/
def DialingConsistent (s : State) : Prop :=
  DeadlinesKept s ∧ DigitsBounded s ∧ DialingHasDeadline s

/-- The shelf's clocks, source and cards (R7, R14, R17, R33, R91, R122). -/
def ShelfConsistent (s : State) : Prop :=
  RunShowsShelf s ∧ ShelfClocks s ∧ SourceConsistent s ∧ AbsentLinesOut s ∧ LatchHasAttention s

/-- The stored bytes, the working parameters and the classifiers (R2, R20, R35). -/
def ValuesInRange (s : State) : Prop :=
  MemoryCanonical s ∧ ParamsInRange s ∧ ClassifierInRange s

/-! ### The terms in which the statements speak of a command -/

/-- R10, R11: an order with sequence `seq` is taken for line n. -/
def Takes (s : State) (n : LineNo) (seq : Byte) : Prop :=
  s.control.shelf = .running ∧ seq ≠ (s.line n).takenSeq

/-- R24: line n receives its sample. -/
def Sampled (s : State) (n : LineNo) : Prop := s.control.shelf ≠ .halted ∧ s.cardPresent n = true

/-- Every host-owned byte reads as before (R2). -/
def HostBytesKept (s t : State) : Prop := ∀ off, hostOwned off = true → t.readByte off = s.readByte off

/-- Everything that belongs to no one line stands as before: the registers and memory, Shelf Control, the
visit pointer, the card slots, the slot clock, the source, the latch, the time and the queue. -/
def ShelfKept (s t : State) : Prop :=
  t.port = s.port ∧ t.control = s.control ∧ t.visitPointer = s.visitPointer ∧ t.slots = s.slots ∧
    t.sched.slot = s.sched.slot ∧ t.sched.nextBoundary = s.sched.nextBoundary ∧
    t.source = s.source ∧ t.latch = s.latch ∧ t.shelfTime = s.shelfTime ∧ t.pending = s.pending

/-- Every line but n stands as before, with its entries of the two ring lists and their order. -/
def OtherLinesKept (n : LineNo) (s t : State) : Prop :=
  (∀ m, m ≠ n → t.line m = s.line m) ∧
    t.sched.bookings.filter (fun b => decide (b.line ≠ n)) =
      s.sched.bookings.filter (fun b => decide (b.line ≠ n)) ∧
    t.sched.waits.filter (fun e => decide (e.line ≠ n)) =
      s.sched.waits.filter (fun e => decide (e.line ≠ n))

/-- The relay words sent from `s` to `t` are words for line n (R130). -/
def SentOnlyFor (n : LineNo) (s t : State) : Prop :=
  ∃ w : List RelayWord, t.sent = w ++ s.sent ∧ ∀ x ∈ w, x.line = n

/-- A command touched line n alone. -/
def OnlyLine (n : LineNo) (s t : State) : Prop :=
  ShelfKept s t ∧ HostBytesKept s t ∧ OtherLinesKept n s t ∧ SentOnlyFor n s t

/-- The 32-bit shelf time field of the shelf header, low byte first (R4). -/
def timeField (s : State) : BitVec 32 :=
  s.readByte 0x2F ++ s.readByte 0x2E ++ s.readByte 0x2D ++ s.readByte 0x2C

/-- A 16-bit field of the window, low byte first, as the shelf processor reads it (section 1.1). -/
def fieldAt (s : State) (off : Nat) : Nat := (s.readByte off).toNat + 256 * (s.readByte (off + 1)).toNat

/-- R1, R4, R7, R142: the shelf header, the empty region and the shelf control register read as the state that
they show (Layouts, Shelf header, Registers). -/
def HeaderShows (s : State) : Prop :=
  (s.readByte 0x00).toNat = (match s.control.shelf with | .halted => 0 | .starting => 1 | .running => 2) ∧
  (s.readByte 0x01).toNat = (match s.source.state with
    | .absent => 0 | .qualifying => 1 | .running => 2 | .failed => 3) ∧
  (s.readByte 0x02).toNat = s.sched.slot.val ∧
  s.readByte 0x03 = s.control.generationTaken ∧
  (∀ k : FrameSlot, fieldAt s (0x04 + 2 * k.val) = s.sched.loads[k]) ∧
  s.readByte 0x1C = s.control.profileAdjusted ∧
  s.readByte 0x1F ++ s.readByte 0x1E = s.control.codeAdjusted ∧
  (∀ n : LineNo, (s.readByte (0x20 + n.val / 8)).getLsbD (n.val % 8) = (s.line n).rep.attention) ∧
  (s.readByte 0x28).toNat =
    ((List.finRange 64).filter fun n : LineNo => (s.line n).rep.attention).length ∧
  (s.readByte 0x29).toNat = s.sched.bookings.length ∧
  (s.readByte 0x2A).toNat = s.sched.waits.length ∧
  timeField s = BitVec.ofNat 32 s.shelfTime ∧
  (∀ off, off = 0x1D ∨ off = 0x2B ∨ (0x30 ≤ off ∧ off < 0x100) ∨ (0x2800 ≤ off ∧ off < 0x7FF8) →
    s.readByte off = 0) ∧
  (s.readWord 0x3FFC).toNat =
    (if s.port.run then 1 else 0) + (if s.port.interruptEnable then 2 else 0)

/-- The supervision state codes (Layouts, Line record). -/
def stateCode : LineState → Nat
  | .outOfService => 0 | .learning => 1 | .idle => 2 | .seizing => 3 | .dialTone => 4 | .dialing => 5
  | .inCall => 6 | .cleardown => 7 | .howler => 8 | .lockout => 9 | .ringWait => 10 | .ringing => 11
  | .ringGuard => 12 | .testing => 13

/-- The outcome codes (Layouts, Line record). -/
def outcomeCode : OrderOutcome → Nat
  | .accepted => 1 | .acceptedAdjusted => 2 | .refusedState => 3 | .refusedField => 4
  | .refusedCapacity => 5 | .refusedNoCard => 6 | .refusedBadKind => 7

/-- The kind code, the detail and the value of each report (R13, R121; Layouts, Report entry; section 11.1). -/
def reportCodes : Report → Nat × Nat × Nat
  | .order outcome kind seq => (0, outcomeCode outcome, kind.toNat * 256 + seq.toNat)
  | .seize => (1, 0, 0)
  | .digit digit => (2, 0, digit)
  | .dialErrorGapBreak => (3, 1, 0)
  | .dialErrorTooManyPulses => (3, 2, 0)
  | .flash length => (4, 0, length)
  | .clear left => (5, 0, stateCode left)
  | .answer .beforeRing frames => (6, 1, frames)
  | .answer .inBurst frames => (6, 2, frames)
  | .answer .inSilence frames => (6, 3, frames)
  | .ringEndNoAnswer frames => (7, 1, frames)
  | .ringEndWaitLimit => (7, 2, 0)
  | .ringQueued .noRoom position => (8, 1, position)
  | .ringQueued .sourceDown position => (8, 2, position)
  | .ringQueued .evicted position => (8, 3, position)
  | .ringBooked boundaries rotation => (9, boundaries, rotation.val)
  | .timeout .fdt => (10, 1, 0)
  | .timeout .pdt => (10, 2, 0)
  | .timeout .cdt => (10, 3, 0)
  | .timeout .how => (10, 4, 0)
  | .leakageHigh leakage => (11, 1, leakage)
  | .leakageNormal leakage => (11, 2, leakage)
  | .cardLost => (12, 1, 0)
  | .cardBack => (12, 2, 0)
  | .testResult .pass measure => (13, 1, measure)
  | .testResult .failLow measure => (13, 2, measure)
  | .testResult .failHigh measure => (13, 3, measure)
  | .testResult .abandoned measure => (13, 4, measure)

/-- R6: the fields of a line's status that belong to a ring entry, from byte `r` of the window on: party, rotation,
frames rung, wait position and frames waited. -/
def RingEntryShown (s : State) (r : Nat) (party rotation rung position waited : Nat) : Prop :=
  s.readByte r = BitVec.ofNat 8 party ∧ s.readByte (r + 1) = BitVec.ofNat 8 rotation ∧
    s.readByte (r + 2) = BitVec.ofNat 8 rung ∧ s.readByte (r + 3) = BitVec.ofNat 8 position ∧
    s.readByte (r + 4) = BitVec.ofNat 8 waited

/-- R6, R139, R140: the status and the report list of line n read as the state that they show (Layouts, Line
record, Report entry).  DESIGN CHOICE (log 32): rotation and frames rung read 0 with a wait entry. -/
def RecordShows (s : State) (n : LineNo) : Prop :=
  let l := s.line n
  let r := recordBase n
  (s.readByte (r + 0x20)).toNat = stateCode l.sup.state ∧
  (s.readByte (r + 0x21)).toNat = (match l.cls.confirmed with | .opened => 0 | .closed => 1) ∧
  (s.readByte (r + 0x22)).toNat = l.cls.baseline / 16 ∧
  (let flags := s.readByte (r + 0x23);
    flags.toNat < 16 ∧ flags.getLsbD 0 = l.cls.leakageHigh ∧ flags.getLsbD 1 = (!s.cardPresent n) ∧
      flags.getLsbD 2 = l.rep.countFault ∧ (flags.getLsbD 3 = true ↔ l.sup.state = .learning)) ∧
  fieldAt s (r + 0x24) = l.cls.baseline ∧
  s.readByte (r + 0x26) = l.rep.written ∧ s.readByte (r + 0x27) = l.takenSeq ∧
  (s.readByte (r + 0x28)).toNat = (match l.lastOutcome with | none => 0 | some o => outcomeCode o) ∧
  (∀ b ∈ s.sched.bookings, b.line = n →
    RingEntryShown s (r + 0x29) b.party.val b.rotation.val b.framesRung 0 0) ∧
  (∀ (i : Nat) (w : WaitEntry), s.sched.waits[i]? = some w → w.line = n →
    (s.readByte (r + 0x2C)).toNat = i + 1 ∧
    RingEntryShown s (r + 0x29) w.party.val 0 0 (i + 1) w.framesWaited) ∧
  ((∀ b ∈ s.sched.bookings, b.line ≠ n) → (∀ w ∈ s.sched.waits, w.line ≠ n) →
    RingEntryShown s (r + 0x29) 0 0 0 0 0) ∧
  s.readByte (r + 0x2E) = BitVec.ofNat 8 l.sup.pulseCount ∧
  (s.readByte (r + 0x2F)).toNat = l.sup.profile.val ∧
  (∀ i, 0x30 ≤ i → i < 0x40 → s.readByte (r + i) = 0) ∧
  ∀ i : Fin 8,
    let e := l.rep.entries[i]
    let a := r + 0x40 + 8 * i.val
    s.readByte a = e.kind ∧ s.readByte (a + 1) = e.detail ∧
      s.readByte (a + 3) ++ s.readByte (a + 2) = e.value ∧
      s.readByte (a + 5) ++ s.readByte (a + 4) = e.time ∧
      s.readByte (a + 6) = e.droppedBefore ∧ s.readByte (a + 7) = e.stateAfter

/-- R13: line `l`, as the order's effect leaves it, once its outcome is recorded and its ORDER report is
appended. -/
def answered (s : State) (l : Line) (outcome : OrderOutcome) (kind seq : Byte) : Line :=
  { l with
    takenSeq := seq
    lastOutcome := some outcome
    rep := l.rep.append s.control.params s.shelfTime (.order outcome kind seq) l.sup.state }

/-- A line with one more report, its own state as the state after. -/
def reported (s : State) (l : Line) (r : Report) : Line :=
  { l with rep := l.rep.append s.control.params s.shelfTime r l.sup.state }

/-- R96: party p of line n fits at rotation r: in every slot in which its mask rings there, the slot load
and the party's own load are together at most the capacity. -/
def FitsAt (s : State) (n : LineNo) (p : Fin 4) (r : FrameSlot) : Prop :=
  ∀ k : FrameSlot, (s.maskOf n p)[k - r] = true →
    s.sched.loads[k] + (s.line n).sup.parties[p].load ≤ s.control.params.capacity

/-- R44: the leakage check of line `l` against its limit. -/
def leakChecked (s : State) (limit : Nat) (l : Line) : Line :=
  if l.cls.leakageHigh then
    if l.cls.baseline / 16 ≤ limit - 4 then
      reported s { l with cls := { l.cls with leakageHigh := false } }
        (.leakageNormal (l.cls.baseline / 16))
    else l
  else if limit < l.cls.baseline / 16 then
    reported s { l with cls := { l.cls with leakageHigh := true } }
      (.leakageHigh (l.cls.baseline / 16))
  else l

/-- R18: what a halt leaves of a line. -/
def haltedLine (l : Line) : Line :=
  { l with
    cls := { l.cls with
      raw := .opened, confirmed := .opened, runCount := 0, tripCount := 0, learnCount := 0,
      learnMin := 255, runStart := none, breakStart := none, makeStart := none, bridge := none }
    sup := { l.sup with
      state := if l.sup.state = .outOfService then .outOfService else .idle
      deadline := none, pulseCount := 0, errorSkip := false, guardRecord := none }
    rel := { ringRelay := none, pending := .none, tone := .none, testRelay := false,
             windowEnd := none, test := none } }

/-- R130: at a halt or a soft reset each line of a present card whose setting the halt changed is sent one
word, with everything released, and no other word is sent. -/
def ReleasedWordsSent (s t : State) : Prop :=
  ∃ w : List RelayWord, t.sent = w ++ s.sent ∧ ∀ n, w.filter (fun x => decide (x.line = n)) =
    if s.cardPresent n = true ∧ (s.line n).setting ≠ .released then
      [{ line := n, setting := .released }] else []

/-- Field i of profile p of the parameter block, as written (Layouts, Timing profile). -/
def profileField (s : State) (p : Fin 8) (i : Nat) : Nat :=
  (s.hostWord (0x140 + 32 * p.val + 2 * i)).toNat

/-- The clamped pair count, lengths and starting mark of pair i of ring code c, as read (R89). -/
def codeByte (s : State) (c : Fin 16) (off : Nat) : Nat :=
  (s.hostByte (0x240 + 16 * c.val + off)).toNat

/-- The clamped pair count of ring code c (R89, step 1). -/
def pairCount (s : State) (c : Fin 16) : Nat := max 1 (min 4 (codeByte s c 0))

/-- The clamped on length of pair i (R89, step 2). -/
def onLength (s : State) (c : Fin 16) (i : Nat) : Nat :=
  max 1 (min 6 (codeByte s c (1 + 2 * i)))

/-- The clamped off length of pair i (R89, step 2). -/
def offLength (s : State) (c : Fin 16) (i : Nat) : Nat :=
  min 11 (codeByte s c (2 + 2 * i))

/-- The mark at which pair i begins (R89, step 3). -/
def pairStart (s : State) (c : Fin 16) : Nat → Nat
  | 0 => 0
  | i + 1 => pairStart s c i + onLength s c i + offLength s c i

/-- The line that a command of one line names: the ten rows for orders and the fifteen for sample
arrivals. -/
def lineOf : Instr → Option LineNo
  | .note n _ => some n
  | .badKind n _ _ => some n
  | .serviceOn n _ => some n
  | .serviceOff n _ => some n
  | .configure n _ _ => some n
  | .ring n _ _ _ => some n
  | .stop n _ => some n
  | .connect n _ => some n
  | .release n _ _ => some n
  | .test n _ _ => some n
  | .sampleArrival n _ => some n
  | .learningEnd n _ => some n
  | .confirmedOpen n _ => some n
  | .confirmedClose n _ => some n
  | .clear n _ => some n
  | .seize n _ => some n
  | .digit n _ => some n
  | .answerBeforeRing n _ => some n
  | .trip n _ => some n
  | .fdtExpiry n _ => some n
  | .pdtExpiry n _ => some n
  | .cdtExpiry n _ => some n
  | .howExpiry n _ => some n
  | .guardEnd n _ => some n
  | .testEnd n _ => some n
  | _ => none

/-- The line, kind code and sequence number of an order's row (R12). -/
def orderRow : Instr → Option (LineNo × Byte × Byte)
  | .note n seq => some (n, 0, seq)
  | .badKind n seq kind => if 8 ≤ kind.toNat then some (n, kind, seq) else none
  | .serviceOn n seq => some (n, 1, seq)
  | .serviceOff n seq => some (n, 1, seq)
  | .configure n seq _ => some (n, 2, seq)
  | .ring n seq _ _ => some (n, 3, seq)
  | .stop n seq => some (n, 4, seq)
  | .connect n seq => some (n, 5, seq)
  | .release n seq _ => some (n, 6, seq)
  | .test n seq _ => some (n, 7, seq)
  | _ => none

/-- The command `i` is answered with outcome `o` for line n, and nothing changes but what R13 records of
it. -/
def OnlyAnswered (i : Instr) (n : LineNo) (o : OrderOutcome) (kind seq : Byte)
    (s : State) : Prop :=
  ∃ t, exec i s = .next t ∧ t.line n = answered s (s.line n) o kind seq ∧ t.sched = s.sched ∧
    t.sent = s.sent

/-- A line on entry to LEARNING (R36, R71). -/
def learningLine (l : Line) : Line :=
  { l with
    cls := { l.cls with
      learnCount := 0, learnMin := 255, runCount := 0, tripCount := 0, runStart := none,
      breakStart := none, makeStart := none, bridge := none }
    sup := { l.sup with state := .learning, deadline := none, pulseCount := 0, errorSkip := false }
    rel := { l.rel with tone := .none } }

/-- A line on a change of supervision state that also sets the pulse count to 0 and clears error-skip, with
no deadline and no tone (R79, R85, R103). -/
def movedLine (l : Line) (st : LineState) : Line :=
  { l with
    sup := { l.sup with state := st, deadline := none, pulseCount := 0, errorSkip := false }
    rel := { l.rel with tone := .none } }

/-- A line taken to OUT OF SERVICE at once (R29, R82). -/
def outLine (l : Line) : Line :=
  { l with
    cls := { l.cls with
      raw := .opened, confirmed := .opened, runCount := 0, tripCount := 0, learnCount := 0,
      learnMin := 255, runStart := none, breakStart := none, makeStart := none, bridge := none }
    sup := { l.sup with
      state := .outOfService, deadline := none, pulseCount := 0, errorSkip := false,
      guardRecord := none }
    rel := { ringRelay := none, pending := .none, tone := .none, testRelay := false,
             windowEnd := none, test := none } }

/-- Line n's booking and wait entry leave the two lists, with its load, and the others stay (R30, R94,
R104). -/
def LeavesLists (n : LineNo) (s t : State) : Prop :=
  t.sched.bookings = s.sched.bookings.filter (fun b => decide (b.line ≠ n)) ∧
    t.sched.waits = s.sched.waits.filter (fun e => decide (e.line ≠ n)) ∧
    (LoadsMatch s → LoadsMatch t)

/-- The order row that a mailbox holding kind `kind` and the fields of `s` posts (R12); none for a SERVICE
whose service value is no encoding. -/
def postedRow (s : State) (n : LineNo) (seq : Byte) (us : Fin 1000) : Option Instr :=
  match (s.hostByte (recordBase n + 0x11)).toNat, (s.hostByte (recordBase n + 0x15)).toNat with
  | 0, _ => some (.note n seq)
  | 1, 0 => some (.serviceOff n seq)
  | 1, 1 => some (.serviceOn n seq)
  | 1, _ => none
  | 2, _ => some (.configure n seq (s.configBytes n))
  | 3, _ => some (.ring n seq (s.hostByte (recordBase n + 0x12)) (s.hostByte (recordBase n + 0x13)))
  | 4, _ => some (.stop n seq)
  | 5, _ => some (.connect n seq)
  | 6, _ => some (.release n seq (s.hostByte (recordBase n + 0x14)))
  | 7, _ => some (.test n seq us)
  | _, _ => some (.badKind n seq (s.hostByte (recordBase n + 0x11)))

/-- The code of a lead (Layouts, Line record). -/
def leadCode : Lead → Nat
  | .a => 0
  | .b => 1
  | .bridged => 2

/-- The checks 2, 4 and 5 of R105 are passed by party p, and the RING is answered with `o`. -/
def RingPasses (s : State) (n : LineNo) (party maxFrames : Byte) (p : Fin 4)
    (o : OrderOutcome) : Prop :=
  party.toNat = p.val ∧ s.cardPresent n = true ∧ (s.line n).sup.parties[p].load ≠ 0 ∧
    (s.line n).sup.parties[p].load ≤ s.control.params.capacity ∧
    o = if 60 < maxFrames.toNat then .acceptedAdjusted else .accepted

/-- A line that leaves RINGING for RING GUARD, asking for a release at the next crossing (R101, R108,
R110). -/
def guardedLine (l : Line) (target : ExitTarget) : Line :=
  { l with
    sup := { l.sup with
      state := .ringGuard, deadline := none, pulseCount := 0, errorSkip := false,
      guardRecord := some { guardEnd := none, target := target } }
    rel := { l.rel with tone := .none, pending := .release } }

/-- The line's ring relay is operated or has an action pending (R101, R108). -/
abbrev Busy (l : Line) : Prop := l.rel.ringRelay ≠ none ∨ l.rel.pending ≠ .none

/-- The modes with hook decisions (R39). -/
def Hooked (s : State) (n : LineNo) : Prop :=
  s.modeOf n = .watch ∨ s.modeOf n = .watchUpdate

/-- The close threshold at a sample of line n (R37). -/
def closeAt (s : State) (n : LineNo) : Nat :=
  closeThreshold (s.profileOf n) (s.line n).cls

/-- The open threshold at a sample of line n (R37). -/
def openAt (s : State) (n : LineNo) : Nat :=
  openThreshold (s.profileOf n) (s.line n).cls

/-- The sample with value v shows line n's loop closed, or leaves it so (R38). -/
def ShowsClosed (s : State) (n : LineNo) (v : Nat) : Prop :=
  closeAt s n ≤ v ∨ (openAt s n < v ∧ (s.line n).cls.raw = .closed)

/-- The run start at a sample with index k that continues the run (R45). -/
def runStartAt (c : Classifier) (k : BitVec 32) : Option (BitVec 32) :=
  if c.runCount = 0 then some k else c.runStart

/-- The make start and the finished break of a close confirmed at the next sample of line n (R45, R52, R56,
R57): a break shorter than PBmin is bridged. -/
def ClosesWith (s : State) (n : LineNo) (m0 : BitVec 32) (len : Option Nat) : Prop :=
  match runStartAt (s.line n).cls ((s.line n).sampleIndex + 1) with
  | none => False
  | some m =>
    len = (s.line n).cls.breakStart.map (fun k0 => 2 * (m - k0).toNat) ∧
      m0 = if len.any (fun L => decide (L < (s.profileOf n).pbMin)) = true
        then (s.line n).cls.bridge.getD m else m

/-- The next sample of line n, with value v, is a make sample with make start `m0` (R53): the line is
confirmed closed and stays so, or this sample confirms the close and finishes a break of length `len`. -/
def MakeAt (s : State) (n : LineNo) (v : Nat) (m0 : BitVec 32) (len : Option Nat) : Prop :=
  Sampled s n ∧ Installed (s.profileOf n) ∧ Hooked s n ∧ ShowsClosed s n v ∧
  (((s.line n).cls.confirmed = .closed ∧ (s.line n).cls.makeStart = some m0 ∧ len = none) ∨
    ((s.line n).cls.confirmed = .opened ∧ (s.profileOf n).d ≤ (s.line n).cls.runCount + 1 ∧
      ClosesWith s n m0 len))

/-- The make elapsed, in ms, of that sample (R58). -/
def makeElapsed (s : State) (n : LineNo) (m0 : BitVec 32) : Nat :=
  2 * (((s.line n).sampleIndex + 1 - m0).toNat + 1)

/-- The break is longer than FLmax: of class clear (R56). -/
def outlasts (s : State) (n : LineNo) (len : Option Nat) : Bool :=
  len.any fun L => decide ((s.profileOf n).flMax < L)

/-- Line n with its sample taken and the close it shows, before the Supervisor acts (R25, R38, R45, R52). -/
def closedLine (s : State) (n : LineNo) (m0 : BitVec 32) (len : Option Nat) : Line :=
  let c := (s.line n).cls
  { s.line n with
    sampleIndex := (s.line n).sampleIndex + 1
    cls := { c with
      raw := .closed, confirmed := .closed, runCount := 0, makeStart := some m0
      runStart := if c.confirmed = .closed then c.runStart
        else runStartAt c ((s.line n).sampleIndex + 1)
      breakStart := if outlasts s n len then none else c.breakStart
      bridge := if outlasts s n len then none else c.bridge } }

/-- The next sample of line n, with value v, is a break sample with break start `k0` (R53): the line is
confirmed open and stays so, or this sample confirms the open. -/
def BreakAt (s : State) (n : LineNo) (v : Nat) (k0 : BitVec 32) : Prop :=
  Sampled s n ∧ Hooked s n ∧ ¬ShowsClosed s n v ∧
  (((s.line n).cls.confirmed = .opened ∧ (s.line n).cls.breakStart = some k0) ∨
    ((s.line n).cls.confirmed = .closed ∧ (s.profileOf n).d ≤ (s.line n).cls.runCount + 1 ∧
      runStartAt (s.line n).cls ((s.line n).sampleIndex + 1) = some k0))

/-- The break elapsed, in ms, of that sample (R54). -/
def breakElapsed (s : State) (n : LineNo) (k0 : BitVec 32) : Nat :=
  2 * (((s.line n).sampleIndex + 1 - k0).toNat + 1)

/-- Line n with its sample taken and the break it shows, before the Supervisor acts (R25, R38, R45, R52). -/
def openedLine (s : State) (n : LineNo) (k0 : BitVec 32) : Line :=
  let c := (s.line n).cls
  { s.line n with
    sampleIndex := (s.line n).sampleIndex + 1
    cls := { c with
      raw := .opened, confirmed := .opened, runCount := 0, breakStart := some k0
      runStart := if c.confirmed = .opened then c.runStart
        else runStartAt c ((s.line n).sampleIndex + 1)
      bridge := if c.confirmed = .opened then c.bridge else c.makeStart } }

/-- The sample's command ends with line n as the Supervisor left it, `l`, after the leakage check of R44,
and with the ring lists as they were. -/
def Leaves (i : Instr) (s : State) (n : LineNo) (l : Line) : Prop :=
  ∃ t, exec i s = .next t ∧ t.line n = leakChecked s (s.profileOf n).ll l ∧ t.sched = s.sched

/-- A line with a deadline of this kind, `seconds` from now (R67). -/
def withDeadline (s : State) (l : Line) (kind : DeadlineKind) (seconds : Nat) : Line :=
  { l with sup := { l.sup with
      deadline := some (kind, BitVec.ofNat 32 (s.shelfTime + seconds * 1000)) } }

/-- A line on a change of state that keeps its pulse count (R67, R69). -/
def stateLine (l : Line) (st : LineState) (tone : Tone) : Line :=
  { l with
    sup := { l.sup with state := st, deadline := none }
    rel := { l.rel with tone := tone } }

/-- A line with its digit gone and the PDT deadline set (R77, R78). -/
def freshDigit (s : State) (n : LineNo) (l : Line) : Line :=
  withDeadline s { l with sup := { l.sup with pulseCount := 0, errorSkip := false } } .pdt
    (s.profileOf n).pdt

/-- A line after a DIAL ERROR (R75, R76). -/
def skippingLine (s : State) (l : Line) (r : Report) : Line :=
  reported s
    { l with sup := { l.sup with pulseCount := 0, errorSkip := true, deadline := none } } r

/-- Line n, `l`, in DIALING at a make sample that has reached IDT (R77). -/
def digitEnded (s : State) (n : LineNo) (l : Line) : Line :=
  if l.sup.errorSkip then freshDigit s n l
  else if l.sup.pulseCount = 0 then l
  else reported s (freshDigit s n l) (.digit (l.sup.pulseCount % 10))

/-- The sample shows the hook as it is confirmed, and declares no clear. -/
def Steady (s : State) (n : LineNo) (v : Nat) : Prop :=
  Sampled s n ∧ Hooked s n ∧ (ShowsClosed s n v ↔ (s.line n).cls.confirmed = .closed) ∧
    ((s.line n).cls.confirmed = .opened → ∀ k0, (s.line n).cls.breakStart = some k0 →
      2 * (((s.line n).sampleIndex + 1 - k0).toNat + 1) ≤ (s.profileOf n).flMax)

/-- Line n with a steady sample taken (R25, R38, R45). -/
def steadyLine (s : State) (n : LineNo) : Line :=
  { s.line n with
    sampleIndex := (s.line n).sampleIndex + 1
    cls := { (s.line n).cls with raw := (s.line n).cls.confirmed, runCount := 0 } }

/-- Line n with its sample taken and a run that differs from the confirmed state begun or gone on, not yet
confirmed (R25, R38, R45). -/
def differingLine (s : State) (n : LineNo) : Line :=
  let c := (s.line n).cls
  { s.line n with
    sampleIndex := (s.line n).sampleIndex + 1
    cls := { c with
      raw := if c.confirmed = .opened then .closed else .opened
      runStart := runStartAt c ((s.line n).sampleIndex + 1), runCount := c.runCount + 1 } }

/-- The states in which a line is off-hook to the Supervisor after a seizure, which act on a clear (R74, R78 to
R81). -/
def Calling (s : State) (n : LineNo) : Prop :=
  s.stateOf n = .dialTone ∨ s.stateOf n = .dialing ∨ s.stateOf n = .inCall ∨
    s.stateOf n = .cleardown ∨ s.stateOf n = .howler ∨ s.stateOf n = .lockout

/-- A make sample with this make start is ignored in the line's state, as is the close if the sample confirms
one (R72 to R74, R77 to R81, R115, R117). -/
def MakeIgnored (s : State) (n : LineNo) (m0 : BitVec 32) : Prop :=
  s.stateOf n ≠ .idle ∧
  (s.stateOf n = .seizing ∨ s.stateOf n = .ringWait → makeElapsed s n m0 < (s.profileOf n).sq) ∧
  (s.stateOf n = .ringing → ∀ b, s.bookingOf n = some b →
    b.firstBurst = false ∧ makeElapsed s n m0 < (s.profileOf n).sq) ∧
  (s.stateOf n = .dialing → makeElapsed s n m0 < (s.profileOf n).idt ∨
    ((s.line n).sup.pulseCount = 0 ∧ (s.line n).sup.errorSkip = false))

/-- A finished break of this length, if there is one, is ignored in the line's state (R72 to R76, R78 to R81,
R115, R117). -/
def BreakIgnored (s : State) (n : LineNo) (len : Option Nat) : Prop :=
  ∀ L, len = some L → (Calling s n → L ≤ (s.profileOf n).flMax) ∧
    (s.stateOf n = .dialTone → ¬((s.profileOf n).pbMin ≤ L ∧ L ≤ (s.profileOf n).pbMax)) ∧
    (s.stateOf n = .dialing → L < (s.profileOf n).pbMin ∨
      ((s.line n).sup.errorSkip = true ∧ L < (s.profileOf n).flMin)) ∧
    (s.stateOf n = .inCall → L < (s.profileOf n).flMin)

/-- The next sample of line n, with value v, hands on nothing that the line's state acts on, and leaves line n
as `l` when the deadline is judged, if it has one (R67, R68): a sample in the ring-transient window, a steady
one, one that differs and confirms nothing, one that confirms an open, but in SEIZING, and one that confirms a
close whose break and make are ignored. -/
def Uneventful (s : State) (n : LineNo) (v : Nat) (l : Line) : Prop :=
  (Sampled s n ∧ s.modeOf n = .transient ∧
    l = { s.line n with sampleIndex := (s.line n).sampleIndex + 1 }) ∨
  (Steady s n v ∧ l = steadyLine s n ∧ ((s.line n).cls.confirmed = .closed →
    ∀ m0, (s.line n).cls.makeStart = some m0 → MakeIgnored s n m0)) ∨
  (Sampled s n ∧ Hooked s n ∧ (ShowsClosed s n v ↔ (s.line n).cls.confirmed = .opened) ∧
    (s.line n).cls.runCount + 1 < (s.profileOf n).d ∧ l = differingLine s n) ∨
  (∃ k0, BreakAt s n v k0 ∧ breakElapsed s n k0 ≤ (s.profileOf n).flMax ∧
    ((s.line n).cls.confirmed = .closed → s.stateOf n ≠ .seizing) ∧ l = openedLine s n k0) ∨
  ∃ m0 len, MakeAt s n v m0 len ∧ BreakIgnored s n len ∧ MakeIgnored s n m0 ∧ l = closedLine s n m0 len

/-- The rows that name what a sample of line n brings about, but the two confirmed changes of its hook, find
nothing here and change nothing; nor do those two where the sample confirms no change (log 6). -/
def BringsNothing (s : State) (n : LineNo) (a : Option Byte) : Prop :=
  (∀ i ∈ [Instr.learningEnd n a, .clear n a, .seize n a, .digit n a, .answerBeforeRing n a, .trip n a,
      .fdtExpiry n a, .pdtExpiry n a, .cdtExpiry n a, .howExpiry n a, .guardEnd n a, .testEnd n a],
    exec i s = .next s) ∧
  ∀ t, exec (.sampleArrival n a) s = .next t → (t.line n).cls.confirmed = (s.line n).cls.confirmed →
    exec (.confirmedOpen n a) s = .next s ∧ exec (.confirmedClose n a) s = .next s

/-- The next sample of line n, with value v, hands on an item that clears or replaces the deadline of the
line's state: a clear declared during the break or finished by a close (for the close, log 21), a pulse in
DIAL TONE, and a pulse, a gap or a flash in DIALING with no digit in progress (R74, R75, R76, R78, R80,
R81). -/
def ItemMovesDeadline (s : State) (n : LineNo) (v : Nat) : Prop :=
  let p := s.profileOf n
  (∃ k0, BreakAt s n v k0 ∧ p.flMax < breakElapsed s n k0) ∨
  ∃ m0 L, MakeAt s n v m0 (some L) ∧
    (p.flMax < L ∨ (s.stateOf n = .dialTone ∧ p.pbMin ≤ L ∧ L ≤ p.pbMax) ∨
      (s.stateOf n = .dialing ∧ p.pbMin ≤ L))

/-- What a clear leaves of a line that is off-hook to the Supervisor, `l` having taken the sample (R74, R78 to
R81). -/
def clearedLine (s : State) (n : LineNo) (l : Line) : Line :=
  let x := stateLine l .idle .none
  reported s
    (if s.stateOf n = .dialing
      then { x with sup := { x.sup with pulseCount := 0, errorSkip := false } } else x)
    (.clear (s.stateOf n))

/-- Line n of a booking or a wait entry that is answered without a guard (R115, R117, R79). -/
def answeredLine (s : State) (l : Line) (how : AnswerKind) (frames : Nat) : Line :=
  let x := movedLine l .inCall
  reported s { x with rel := { x.rel with pending := .none } } (.answer how frames)

/-- The trip threshold at a sample of line n (R48). -/
def tripAt (s : State) (n : LineNo) : Nat :=
  min 255 ((s.line n).cls.baseline / 16 + (s.profileOf n).mt)

/-- The classifier at the exit from the ignore mode at the sample with index k (R46, R62). -/
def resumed (c : Classifier) (k : BitVec 32) : Classifier :=
  { c with
    raw := c.confirmed, runCount := 0, breakStart := none, bridge := none
    makeStart := if c.confirmed = .closed then some (k + 1) else none }

/-- Line n as its guard ends into this state, with its confirmed hook (R118, R46, R62, R79, R103). -/
def unguarded (s : State) (n : LineNo) (st : LineState) (h : Hook) : Line :=
  let k := (s.line n).sampleIndex + 1
  let x := movedLine { s.line n with sampleIndex := k } st
  { x with
    sup := { x.sup with guardRecord := none }
    cls := resumed { x.cls with confirmed := h } k }

/-- The wait entry of line n on joining (R101, R104, R111). -/
def joining (n : LineNo) (p : Fin 4) (maxFrames : Nat) (mark : Option EvictionMark) :
    WaitEntry :=
  { line := n, party := p, maxFrames := maxFrames, framesWaited := 0, blocking := false, mark := mark }

/-- The entry carries an eviction mark of the same batch with a lower rank (R102). -/
def batchAhead (mark : EvictionMark) (e : WaitEntry) : Bool :=
  e.mark.any fun m => decide (m.time = mark.time) && decide (m.rank < mark.rank)

/-- Line n at its guard's end, by the exit target (R118, R102). -/
def ExitsTo (s t : State) (n : LineNo) : ExitTarget → Prop
  | .inCall => t.line n = unguarded s n .inCall .closed ∧ t.sched = s.sched
  | .idle => t.line n = unguarded s n .idle (s.line n).cls.confirmed ∧ t.sched = s.sched
  | .ringWait .noRoom p m =>
    t.line n = reported s (unguarded s n .ringWait (s.line n).cls.confirmed)
      (.ringQueued .noRoom (waitPosition t.sched.waits n)) ∧
    t.sched = { s.sched with waits := s.sched.waits ++ [joining n p m none] }
  | .ringWait (.evicted k) p m =>
    t.line n = reported s (unguarded s n .ringWait (s.line n).cls.confirmed)
      (.ringQueued .evicted (waitPosition t.sched.waits n)) ∧
    ∃ i, i < s.sched.waits.length + 1 ∧
      t.sched = { s.sched with
        waits := s.sched.waits.take i ++ joining n p m (some k) :: s.sched.waits.drop i } ∧
      (∀ e ∈ s.sched.waits.drop i, batchAhead k e = false) ∧
      (i = 0 ∨ (s.sched.waits.take i).getLast?.any (batchAhead k) = true)

/-- A slot boundary is due: it starts slot c, and the next follows 500 ms after `e` (R91). -/
def Boundary (s : State) (c : FrameSlot) (e : Nat) : Prop :=
  s.control.shelf = .running ∧ s.sched.nextBoundary = some e ∧ e ≤ s.shelfTime ∧
    c = s.sched.slot + 1

/-- No frame ends at the boundary that starts slot c (R110). -/
def NoFrameEnds (s : State) (c : FrameSlot) : Prop :=
  ∀ b ∈ s.sched.bookings, ¬(b.rotation = c ∧ b.firstBurst = true)

/-- The pending action with which line `l` follows its booking at slot c (R112, R132). -/
def followed (b : Booking) (c : FrameSlot) (l : Line) : RingAction :=
  let lead := l.sup.parties[b.party].lead
  if (b.firstBurst = true ∨ b.rotation = c) ∧ b.mask[c - b.rotation] = true then
    (if l.rel.ringRelay = some lead then .none else .operate lead)
  else if l.rel.ringRelay = none then .none else .release

/-- The bookings after the relay requests of the boundary that starts slot c (R112). -/
def burstMarked (s : State) (c : FrameSlot) : List Booking :=
  s.sched.bookings.map fun b => { b with firstBurst := b.firstBurst || decide (b.rotation = c) }

/-- What a slot boundary that the writes `early` and `late` meet leaves as it is: all but the ring lists, the
lines in them, what the writes store and, at a frame boundary, what a parameter load installs (R109, R20,
R22). -/
def BoundaryFrame (s : State) (early late : List BusWrite) (t : State) : Prop :=
  t.port = { (s.landed early late).port with parametersAdjusted := t.port.parametersAdjusted } ∧
  t.control.shelf = s.control.shelf ∧ t.control.startingEnd = s.control.startingEnd ∧
  (s.sched.slot + 1 ≠ 0 → t.control = s.control ∧ t.port = (s.landed early late).port) ∧
  HostBytesKept (s.landed early late) t ∧ t.slots = s.slots ∧ t.visitPointer = s.visitPointer ∧ t.source = s.source ∧
  t.latch = s.latch ∧ t.shelfTime = s.shelfTime ∧ t.pending = s.pending ∧
  ∀ n, n ∉ s.sched.bookings.map Booking.line → n ∉ s.sched.waits.map WaitEntry.line →
    t.line n = s.line n

/-! ### The stages of a slot boundary (R109) -/

/-- Stage 1 of the boundary due at `e`: it starts slot c, and the next is due 500 ms on (R91). -/
def clocked (s : State) (c : FrameSlot) (e : Nat) : State :=
  { s with sched := { s.sched with slot := c, nextBoundary := some (e + 500) } }

/-- Party p of line n fits at rotation c + d, and at none tried before it from c on (R98). -/
def FirstFit (s : State) (n : LineNo) (p : Fin 4) (c : FrameSlot) (d : Fin 12) : Prop :=
  FitsAt s n p (c + d) ∧ ∀ j : Fin 12, j < d → ¬FitsAt s n p (c + j)

/-- The booking that an admission of party p of line n gives (R93). -/
def admitted (s : State) (n : LineNo) (p : Fin 4) (r : FrameSlot) (maxFrames : Nat) (first : Bool) :
    Booking :=
  { line := n, party := p, rotation := r, mask := s.maskOf n p,
    load := (s.line n).sup.parties[p].load, framesRung := 0, maxFrames := maxFrames,
    firstBurst := first, change := none }

/-- The slot loads and the bookings without line n's booking `b` (R94). -/
def without (x : State) (n : LineNo) (b : Booking) : Scheduler :=
  { x.sched with
    bookings := x.sched.bookings.filter fun a => decide (a.line ≠ n)
    loads := Vector.ofFn fun k : FrameSlot => x.sched.loads[k] - b.contribution k }

/-- A list of slot loads and bookings with one more booking at the tail (R94). -/
def withTail (q : Scheduler) (b : Booking) : Scheduler :=
  { q with
    bookings := q.bookings ++ [b]
    loads := Vector.ofFn fun k : FrameSlot => q.loads[k] + b.contribution k }

/-- R111: the max frames that a re-admission gives, by the change's origin. -/
def readmittedFrames (change : PendingChange) : Nat :=
  match change.origin with
  | .order => change.maxFrames
  | .reload => change.maxFrames - 1

/-- R111: line n's booking `b` is re-admitted by its pending change, from `x` to `y`, at the boundary that
starts slot c. -/
def Readmitted (c : FrameSlot) (n : LineNo) (b : Booking) (change : PendingChange) (x y : State) : Prop :=
  let off : State := { x with sched := without x n b }
  let frames := readmittedFrames change
  (∀ d, FirstFit off n change.party c d →
    y.sched = withTail (without x n b) (admitted x n change.party (c + d) frames false) ∧
      y.line n = reported x (movedLine (x.line n) .ringing) (.ringBooked d.val (c + d))) ∧
  ((∀ r, ¬FitsAt off n change.party r) →
    (Busy (x.line n) → y.sched = without x n b ∧
      y.line n = guardedLine (x.line n) (.ringWait .noRoom change.party frames)) ∧
    (¬Busy (x.line n) →
      y.sched = { without x n b with
        waits := x.sched.waits ++ [joining n change.party frames none] } ∧
      y.line n = reported x (movedLine (x.line n) .ringWait)
        (.ringQueued .noRoom (waitPosition y.sched.waits n))))

/-- R110: the frame of line n's booking ends, from `x` to `y`, at the boundary that starts slot c. -/
def FrameEnds (c : FrameSlot) (n : LineNo) (x y : State) : Prop :=
  ∃ b, x.bookingOf n = some b ∧
    (∀ m, m ≠ n → y.line m = x.line m) ∧ y = { x with sched := y.sched, lines := y.lines } ∧
    let frames := if b.maxFrames = 0 then min 60 (b.framesRung + 1) else b.framesRung + 1
    if 0 < b.maxFrames ∧ frames = b.maxFrames then
      y.sched = without x n b ∧
        y.line n = reported x (if Busy (x.line n) then guardedLine (x.line n) .idle
          else movedLine (x.line n) .idle) (.ringEndNoAnswer frames)
    else
      match b.change with
      | some change => Readmitted c n b change x y
      | none =>
        y.line n = x.line n ∧
          y.sched = { x.sched with bookings := x.sched.bookings.map fun a =>
            if a.line = n then { a with framesRung := frames } else a }

/-- R110: the frames of these lines' bookings end one after the other, from `x` to `y`. -/
def FramesEnd (c : FrameSlot) : List LineNo → State → State → Prop
  | [], x, y => y = x
  | n :: w, x, y => ∃ z, FrameEnds c n x z ∧ FramesEnd c w z y

/-- Stage 3: each booking's relay is asked to follow its mark, and first bursts are marked (R112). -/
def requested (x : State) (c : FrameSlot) : State :=
  { x with
    sched := { x.sched with bookings := burstMarked x c }
    lines := Vector.ofFn fun n : LineNo =>
      match x.bookingOf n with
      | some b => { x.line n with
          rel := { (x.line n).rel with pending := followed b c (x.line n) } }
      | none => x.line n }

/-- Stage 4, R113: the entries of the lines `begun` are counted, and those at the wait limit leave. -/
def counted (x : State) (begun : List LineNo) : State :=
  let p := x.control.params
  let all := x.sched.waits.map fun w =>
    if w.line ∈ begun then
      { w with framesWaited := w.framesWaited + 1
               blocking := decide (p.priorityAge ≤ w.framesWaited + 1) }
    else w
  { x with
    sched := { x.sched with waits := all.filter fun w => decide (w.framesWaited < p.waitLimit) }
    lines := Vector.ofFn fun n : LineNo =>
      if all.any (fun w => decide (w.line = n ∧ p.waitLimit ≤ w.framesWaited)) = true then
        reported x (movedLine (x.line n) .idle) .ringEndWaitLimit
      else x.line n }

/-- R119: a remaining booking after a reload that installed the parameters `p`. -/
def rechanged (x : State) (p : Params) (b : Booking) : Booking :=
  if b.change = none ∧ p.masks[(x.line b.line).sup.parties[b.party].code] ≠ b.mask then
    let frames := if b.maxFrames = 0 then 0 else b.maxFrames - b.framesRung
    { b with change := some { party := b.party, maxFrames := frames, origin := .reload } }
  else b

/-- R101: the party and max frames with which an evicted booking waits; that those of a pending change are
taken as stored is log 20. -/
def evictedParty (b : Booking) : Fin 4 × Nat :=
  match b.change with
  | some change => (change.party, change.maxFrames)
  | none => (b.party, b.maxFrames)

/-- R101: the wait entry of an evicted booking with this rank, at shelf time `time`. -/
def evictedEntry (time rank : Nat) (b : Booking) : WaitEntry :=
  joining b.line (evictedParty b).1 (evictedParty b).2 (some { time := time, rank := rank })

/-- R101, R102: the evicted bookings `out`, the oldest first, have left RINGING from `x` to `y`: through a
guard where the relay is busy, and for the head of the wait list in their order where it is not. -/
def Evicted (out : List Booking) (x y : State) : Prop :=
  let p := y.control.params
  (∀ (i : Nat) (b : Booking), out[i]? = some b →
    let entry := evictedEntry x.shelfTime (i + 1) b
    (Busy (x.line b.line) → y.line b.line = guardedLine (x.line b.line)
      (.ringWait (.evicted { time := x.shelfTime, rank := i + 1 }) entry.party entry.maxFrames)) ∧
    (¬Busy (x.line b.line) → y.line b.line = reported y (movedLine (x.line b.line) .ringWait)
      (.ringQueued .evicted (waitPosition y.sched.waits b.line)))) ∧
  ((∀ w ∈ x.sched.waits, ∀ k ∈ w.mark, k.time ≠ x.shelfTime) →
    y.sched.waits = ((out.zipIdx.filter fun b => !(x.line b.1.line).relayBusy).map fun b =>
        evictedEntry x.shelfTime (b.2 + 1) b.1) ++
      x.sched.waits.map fun w => { w with blocking := decide (p.priorityAge ≤ w.framesWaited) })

/-- Stage 4, R20, R22: the block, with the writes `early` taken, is loaded over `x`; then the fewest of the
newest bookings leave that bring every slot within the capacity (R100 to R102), and each other booking whose
mask has changed is given a pending change, if it has none (R119). -/
def Reloaded (x : State) (early late : List BusWrite) (y : State) : Prop :=
  let r := x.writes early
  let p := r.loadedParams
  y.control = { x.control with
    params := p, generationTaken := r.readByte 0x100, profileAdjusted := r.profileMap
    codeAdjusted := r.codeMap } ∧
  y.port = { (x.landed early late).port with
    parametersAdjusted := x.port.parametersAdjusted || r.loadAdjusts } ∧
  (∃ kept out : List Booking, x.sched.bookings = kept ++ out ∧
    y.sched = { x.sched with
      bookings := kept.map (rechanged x p), waits := y.sched.waits, loads := y.sched.loads } ∧
    (∀ k : FrameSlot, y.sched.loads[k] = (kept.map fun b => b.contribution k).sum ∧
      (kept ≠ [] → y.sched.loads[k] ≤ p.capacity)) ∧
    (∀ b, out.head? = some b → ∃ k : FrameSlot,
      p.capacity < (kept.map fun b => b.contribution k).sum + b.contribution k) ∧
    Evicted out x y ∧
    ∀ n, n ∉ out.map Booking.line → y.line n = x.line n) ∧
  y = { x with port := y.port, control := y.control, sched := y.sched, lines := y.lines }

/-- R114: a line that the walk books at rotation r, at the boundary that starts slot c. -/
def walkedLine (m : State) (c : FrameSlot) (e : WaitEntry) (r : FrameSlot) : Line :=
  let l := movedLine (m.line e.line) .ringing
  let lead := l.sup.parties[e.party].lead
  let booked := if r = c then { l with rel := { l.rel with
    pending := if l.rel.ringRelay = some lead then .none else .operate lead } } else l
  { booked with rep := (reported m l (.ringBooked (r - c).val r)).rep }

/-- The booking that the walk gives the entry at rotation r: at rotation c its first burst is marked (R114).
-/
def walkedBooking (m : State) (c : FrameSlot) (e : WaitEntry) (r : FrameSlot) : Booking :=
  admitted m e.line e.party r e.maxFrames (decide (r = c))

/-- The bookings that a walk gives these entries, by its plan of rotations, in their order. -/
def planned (m : State) (c : FrameSlot) (plan : LineNo → Option FrameSlot) (w : List WaitEntry) :
    List Booking :=
  w.filterMap fun e => (plan e.line).map (walkedBooking m c e)

/-- `m` with the load of the bookings that the walk gives these entries (R94). -/
def laden (m : State) (c : FrameSlot) (plan : LineNo → Option FrameSlot) (w : List WaitEntry) : State :=
  { m with sched := { m.sched with loads := Vector.ofFn fun k : FrameSlot =>
    m.sched.loads[k] + ((planned m c plan w).map fun b => b.contribution k).sum } }

/-- Stage 5, R114: the walk over the wait list of `m` gives `t`.  An entry is tried if no entry ahead of it
was blocking and not booked; it is booked at the first rotation from c on at which it fits with those ahead
of it that were booked, and keeps its place if there is none. -/
def Walked (c : FrameSlot) (m t : State) : Prop :=
  ∃ plan : LineNo → Option FrameSlot,
    (∀ (ahead : List WaitEntry) (e : WaitEntry) (behind : List WaitEntry),
      m.sched.waits = ahead ++ e :: behind →
      if ∀ x ∈ ahead, plan x.line = none → x.blocking = false then
        (∀ r, plan e.line = some r → ∃ d, r = c + d ∧
          FirstFit (laden m c plan ahead) e.line e.party c d) ∧
        (plan e.line = none → ∀ r, ¬FitsAt (laden m c plan ahead) e.line e.party r)
      else plan e.line = none) ∧
    t.sched = { (laden m c plan m.sched.waits).sched with
      bookings := m.sched.bookings ++ planned m c plan m.sched.waits
      waits := m.sched.waits.filter fun e => (plan e.line).isNone } ∧
    (∀ e ∈ m.sched.waits, t.line e.line =
      match plan e.line with
      | some r => walkedLine m c e r
      | none => m.line e.line) ∧
    (∀ n, n ∉ m.sched.waits.map WaitEntry.line → t.line n = m.line n) ∧
    t = { m with sched := t.sched, lines := t.lines }

/-- Stage 5, R109: the walk is made only while the source is RUNNING. -/
def WalkedTo (c : FrameSlot) (m t : State) : Prop :=
  if m.source.state = .running then Walked c m t else t = m

/-- Stages 3 to 5 of the boundary that starts slot c, from `x` to `t`; `begun` are the lines that waited when
it began (R109). -/
def BoundaryEnds (c : FrameSlot) (begun : List LineNo) (early late : List BusWrite) (x t : State) :
    Prop :=
  let q := requested x c
  if c = 0 then
    if q.readByte 0x100 = q.control.generationTaken then
      WalkedTo 0 ((counted q begun).landed early late) t
    else ∃ m, Reloaded (counted q begun) early late m ∧ WalkedTo 0 m t
  else WalkedTo c (q.landed early late) t

/-- A line whose relay is released at `now`, with its transient window (R47, R39). -/
def releasedLine (l : Line) (now : Instant) : Line :=
  { l with
    rel := { l.rel with ringRelay := none, pending := .none, windowEnd := some (now + 10 * 4000) }
    cls := { l.cls with tripCount := 0 } }

/-- R135, R118: the guard end is set by the release that the guard awaits. -/
def guardStarted (s : State) (l : Line) (now : Instant) : Line :=
  if l.sup.state = .ringGuard then
    { l with sup := { l.sup with guardRecord := l.sup.guardRecord.map fun g =>
      { g with guardEnd := some (g.guardEnd.getD (now + s.control.params.guardTime * 4000)) } } }
  else l

/-- A line with no action pending, its hollow release completed (R133, R134). -/
def hollowReleased (l : Line) : Line :=
  { l with
    rel := { l.rel with pending := .none }
    cls := { l.cls with tripCount := 0 } }

/-- R133: a line at a crossing that is handed on. -/
def crossedLine (s : State) (l : Line) (now : Instant) : Line :=
  match l.rel.pending with
  | .none => l
  | .operate lead => { l with
      rel := { l.rel with
        ringRelay := some lead, pending := .none, windowEnd := some (now + 10 * 4000) }
      cls := { l.cls with
        runCount := 0, raw := l.cls.confirmed, breakStart := none, bridge := none } }
  | .release => guardStarted s
      (if l.rel.ringRelay = none then hollowReleased l else releasedLine l now) now

/-- R130: each line of a present card whose setting changes is sent one word with its whole setting. -/
def SettingsSent (s t : State) : Prop :=
  ∃ w : List RelayWord, t.sent = w ++ s.sent ∧ ∀ n, w.filter (fun x => decide (x.line = n)) =
    if s.cardPresent n = true ∧ (t.line n).setting ≠ (s.line n).setting then
      [{ line := n, setting := (t.line n).setting }] else []

/-- R125: a line's relay at a failure of the source. -/
def failedLine (s : State) (l : Line) (now : Instant) : Line :=
  if l.rel.ringRelay ≠ none then guardStarted s (releasedLine l now) now
  else
    match l.rel.pending with
    | .none => l
    | .operate _ => { l with rel := { l.rel with pending := .none } }
    | .release => guardStarted s (hollowReleased l) now

end Sys2Proof.Safety
end

