-- ==== Sys2Proof/Certificates/Slice0/Obligations.lean ====
section
/-! DEFINITION. The statements for the provers: what the numbered rules of spec/ say of the commands and
of the part's state, and the laws that hold across every step. -/

open Sys2Proof Sys2Proof.Machine Sys2Proof.Safety

/-! ### The queue, power-on and time -/

/-- Section 95, first paragraph: each command is taken whole, first in first out.  That the part idles on
an empty queue is the model's choice (log 1). -/
def Obligations.StepRunsFrontCommand : Prop :=
  (∀ (c : Instr) (q : List Instr) (s : State),
    step { s with pending := c :: q } = exec c { s with pending := q }) ∧
  ∀ s : State, s.pending = [] → step s = .next s

/-- R15, R10, R25, R28, R36, R66, R91, R93, R122, R129, R130, R139: power-on resets the whole part, begins the
loss interval of each slot that shows not seated, and sends each line one released word.  That the trace of
relay words begins there is the model's (log 10).  The statement says nothing of the waiting commands (log 24)
nor of the data lines (log 3). -/
def Obligations.PowerOnResetsThePart : Prop :=
  ∀ (seated : Byte) (s : State), ∃ t, exec (.powerOn seated) s = .next t ∧
    (∀ off, t.readByte off = 0) ∧ t.attentionCount = 0 ∧ t.interruptAsserted = false ∧
    t.port = { mem := [], run := false, interruptEnable := false, writeDiscarded := false,
               parametersAdjusted := false, readData := t.port.readData } ∧
    t.control = { shelf := .halted, startingEnd := none, params := t.loadedParams, generationTaken := 0,
                  profileAdjusted := 0, codeAdjusted := 0 } ∧
    (∀ n, t.line n =
      { sampleIndex := 0, takenSeq := 0, lastOutcome := none
        cls := { baseline := 0, raw := .opened, confirmed := .opened, runCount := 0, runStart := none,
                 breakStart := none, makeStart := none, bridge := none, tripCount := 0, learnCount := 0,
                 learnMin := 255, leakageHigh := false }
        sup := { state := .outOfService, profile := 0
                 parties := Vector.replicate 4 { code := 0, load := 0, lead := .a }
                 pulseCount := 0, errorSkip := false, deadline := none, guardRecord := none }
        rel := { ringRelay := none, pending := .none, tone := .none, testRelay := false,
                 windowEnd := none, test := none }
        rep := { written := 0, taken := 0, dropped := 0, countFault := false, attention := false
                 entries := Vector.replicate 8 { kind := 0, detail := 0, value := 0, time := 0,
                                                 droppedBefore := 0, stateAfter := 0 } } }) ∧
    t.sched = { slot := 0, nextBoundary := none, loads := Vector.replicate 12 0, bookings := [],
                waits := [] } ∧
    t.source = { state := .absent, goodCount := 0, lastCrossing := none, lossDeadline := none } ∧
    t.visitPointer = 0 ∧ t.latch = none ∧ t.shelfTime = 0 ∧
    (∀ n, t.sent.filter (fun x => decide (x.line = n)) =
      [{ line := n, setting := { ringRelay := none, tone := .none, testRelay := false } }]) ∧
    ∀ c : CardNo, t.slots[c] =
      { seated := seated.getLsbD c.val, presence := .present
        deadline := if seated.getLsbD c.val then none else some 100 }

/-- R4: the shelf time field advances by one every millisecond, and its low 16 bits are what the shelf
time register returns; nothing else changes.  R1, R4, R6, R7, R142: what each part-owned byte of the shelf
header and of a line record reads, in every state with consistent ring lists and values in range, which every
step keeps (`StepKeepsRingLists`, `StepKeepsRanges`).  That rotation and frames rung read 0 with a wait entry is
the model's choice (log 32).  The status and the attention register are told by
`StatusReadReturnsAndClearsFlags` and `AttentionReadLatchesLowestLine`. -/
def Obligations.ShelfTimeAdvancesByOne : Prop :=
  (∀ s : State, ∃ t, exec .shelfTimeTick s = .next t ∧
    timeField t = timeField s + 1 ∧ t.readWord 0x3FFF = (timeField t).setWidth 16 ∧
    t = { s with shelfTime := t.shelfTime } ∧ t.shelfTime = s.shelfTime + 1) ∧
  ∀ s : State, RingListsConsistent s → ValuesInRange s → HeaderShows s ∧ ∀ n, RecordShows s n

/-! ### The bus -/

/-- R1, R2: a write in the work memory with a byte enabled, in every state: one to a host-owned word stores
the enabled bytes, which then read as written where the stored bytes are in their canonical form (every step
keeps it, `StepKeepsRanges`), and one to a part-owned word is discarded and sets *write discarded*; no other
byte of the window changes. -/
def Obligations.WorkMemoryWriteStoresOrDiscards : Prop :=
  ∀ (w : BusWrite) (s : State), w.inWorkMemory = true → w.low = true ∨ w.high = true →
    ∃ t, exec (.workMemoryWrite w) s = .next t ∧
      (hostOwned w.offset = true →
        (MemoryCanonical s → ∀ off, t.readByte off =
          if off = w.offset ∧ w.low = true then lowByte w.data
          else if off = w.offset + 1 ∧ w.high = true then highByte w.data
          else s.readByte off) ∧
        t = { s with port.mem := t.port.mem }) ∧
      (hostOwned w.offset = false →
        t.port.writeDiscarded = true ∧ (∀ off, off ≠ 0x7FFA → t.readByte off = s.readByte off) ∧
        t = { s with port.writeDiscarded := true })

/-- R1, R8, R9: writes to the empty region, to the read-only registers and to bits that do not act are
ignored and set no flag.  The model's choices: a write with no byte enabled writes nothing (log 16), and a
row whose event is not there to be taken changes nothing: an order that cannot be taken (log 8), a line that
is not read (R24; log 6), a boundary that is not due (log 7), whose writes land all the same (log 28). -/
def Obligations.CommandsThatFindNothing : Prop :=
  (∀ (w : BusWrite) (s : State),
    exec (.registerWriteIgnored w) s = .next s ∧
    (w.low = false → w.high = false → exec (.workMemoryWrite w) s = .next s)) ∧
  (∀ (i : Instr) (n : LineNo) (kind seq : Byte) (s : State), orderRow i = some (n, kind, seq) →
    ¬Takes s n seq → exec i s = .next s) ∧
  (∀ (i : Instr) (n : LineNo) (s : State), lineOf i = some n → orderRow i = none → ¬Sampled s n →
    (∀ seq kind, i ≠ .badKind n seq kind) → exec i s = .next s) ∧
  ∀ (n : LineNo) (early late : List BusWrite) (s : State),
    s.control.shelf ≠ .running ∨ s.sched.nextBoundary = none ∨
      (∀ e, s.sched.nextBoundary = some e → s.shelfTime < e) →
    exec (.slotBoundary early late) s = .next (s.landed early late) ∧
      exec (.ringEndNoAnswer n early late) s = .next (s.landed early late) ∧
      exec (.ringEndWaitLimit n early late) s = .next (s.landed early late)

/-- R8: a read of the shelf status register returns the shelf state, the source state and both sticky
flags as they stand, and then clears the flags. -/
def Obligations.StatusReadReturnsAndClearsFlags : Prop :=
  ∀ s : State, ∃ t, exec .shelfStatusRead s = .next t ∧
    t.port.readData = s.readWord 0x3FFD ∧
    t.port.readData.toNat = s.control.shelf.code + 4 * s.source.state.code
      + (if s.port.writeDiscarded then 16 else 0) + (if s.port.parametersAdjusted then 32 else 0) ∧
    t = { s with port := { s.port with
            readData := t.port.readData, writeDiscarded := false, parametersAdjusted := false } }

/-- R143: what a read of the attention register does to the latch, what it returns, and when the latch is
emptied.  That the line number reads 0 while the latch is empty is the model's choice (log 27), and that a visit
reads the taken count before the writes that it carries, its reading (log 9). -/
def Obligations.AttentionReadLatchesLowestLine : Prop :=
  (∀ s : State, ∃ t, exec .attentionRegisterRead s = .next t ∧
    (∀ n, s.latch = some n → t.latch = some n) ∧
    (s.latch = none → ∀ n, s.attentionBit n = true → (∀ m, m < n → s.attentionBit m = false) →
      t.latch = some n) ∧
    (s.latch = none → s.attentionCount = 0 → t.latch = none) ∧
    t.port.readData.toNat = s.attentionCount +
      (match t.latch with | some n => 0x8000 + 0x100 * n.val | none => 0) ∧
    t.port.readData = t.readWord 0x3FFE ∧
    t = { s with latch := t.latch, port.readData := t.port.readData }) ∧
  (∀ (us : Fin 1000) (early late : List BusWrite) (s : State),
    ∃ t, exec (.orderIntakeVisit us early late) s = .next t ∧
    (s.control.shelf ≠ .running ∨
        s.mailSequence s.visitPointer = (s.line s.visitPointer).takenSeq →
      s.attentionBit s.visitPointer = true →
      t.latch = if s.latch = some s.visitPointer ∧ t.attentionBit s.visitPointer = false then none
        else s.latch)) ∧
  ∀ (r e : Bool) (s : State), ∃ t, exec (.softReset r e) s = .next t ∧ t.latch = none

/-- R144: the interrupt output is asserted while the attention count is above 0 and INTERRUPT ENABLE is
set; it follows both at once. -/
def Obligations.InterruptFollowsCountAndEnable : Prop :=
  (∀ s : State, s.interruptAsserted = true ↔
    (∃ n, s.attentionBit n = true) ∧ s.readWord 0x3FFC &&& 2 = 2) ∧
  (∀ (v : Bool) (s : State), RunShowsShelf s → ∃ t, exec (.interruptEnable v) s = .next t ∧
    t = { s with port.interruptEnable := v } ∧ (t.interruptAsserted = true ↔
      v = true ∧ ∃ n, s.attentionBit n = true)) ∧
  (∀ s : State, ∃ t, exec .attentionRegisterRead s = .next t ∧
    t.interruptAsserted = s.interruptAsserted) ∧
  (∀ (b : Byte) (s : State), ∃ t, exec (.powerOn b) s = .next t ∧ t.interruptAsserted = false) ∧
  (∀ (r e : Bool) (s : State), ∃ t, exec (.softReset r e) s = .next t ∧
    t.interruptAsserted = false) ∧
  ∀ s : State, ∃ t, exec (.halt s.port.interruptEnable) s = .next t ∧
    t.interruptAsserted = s.interruptAsserted

/-! ### Starting, halting, soft reset and the parameter load -/

/-- R16, R20: setting RUN while the shelf is HALTED starts it, with a load of the block as it stands once the
writes `early` have landed; setting it otherwise only stores the bit.  The lines then rest with no tone, so no
relay word is sent (R18, R69, R130).  What the two maps and the adjustment flag say is `LoadRecordsAdjustments`.
The writes are the shelf processor's, and land whatever RUN does (log 28). -/
def Obligations.RunStartsTheShelf : Prop :=
  (∀ (e : Bool) (early late : List BusWrite) (s : State), s.control.shelf = .halted →
    ∃ t, exec (.run e early late) s = .next t ∧
    t.control = { shelf := .starting, startingEnd := some (s.shelfTime + 16)
                  params := (s.writes early).loadedParams
                  generationTaken := (s.writes early).readByte 0x100
                  profileAdjusted := (s.writes early).profileMap
                  codeAdjusted := (s.writes early).codeMap } ∧
    (HaltedLinesRest s → TonesFit s → t.sent = s.sent) ∧
    (∀ n, t.line n = if s.stateOf n = .outOfService then s.line n else
      { s.line n with
        cls := { (s.line n).cls with
          learnCount := 0, learnMin := 255, runCount := 0, tripCount := 0, runStart := none,
          breakStart := none, makeStart := none, bridge := none }
        sup := { (s.line n).sup with
          state := .learning, deadline := none, pulseCount := 0, errorSkip := false }
        rel := { (s.line n).rel with tone := .none } }) ∧
    t.source = { state := .absent, goodCount := 0, lastCrossing := none, lossDeadline := none } ∧
    t.takesCrossings = true ∧ (∀ n, t.delivers n = s.cardPresent n) ∧
    t.port = { (s.landed early late).port with
      run := true, interruptEnable := e
      parametersAdjusted := s.port.parametersAdjusted || (s.writes early).loadAdjusts } ∧
    HostBytesKept (s.landed early late) t ∧
    t.sched = { s.sched with waits := s.sched.waits.map fun w =>
      { w with blocking := decide ((s.writes early).loadedParams.priorityAge ≤ w.framesWaited) } } ∧
    t.slots = s.slots ∧ t.visitPointer = s.visitPointer ∧ t.latch = s.latch ∧
    t.shelfTime = s.shelfTime ∧ t.pending = s.pending) ∧
  ∀ (e : Bool) (early late : List BusWrite) (s : State), s.control.shelf ≠ .halted →
    exec (.run e early late) s =
      .next { s.landed early late with port.run := true, port.interruptEnable := e }

/-- R18: clearing RUN while the shelf is STARTING or RUNNING halts it, at once and without reports; clearing
it while HALTED has no effect but to store the two bits. -/
def Obligations.HaltEndsAllWork : Prop :=
  (∀ (e : Bool) (s : State), s.control.shelf ≠ .halted → ∃ t, exec (.halt e) s = .next t ∧
    (∀ n, t.line n = haltedLine (s.line n)) ∧
    t.control = { s.control with shelf := .halted, startingEnd := none } ∧
    t.sched = { slot := 0, nextBoundary := none, loads := Vector.replicate 12 0, bookings := [],
                waits := [] } ∧
    t.source = { state := .absent, goodCount := 0, lastCrossing := none, lossDeadline := none } ∧
    ReleasedWordsSent s t ∧ t.port = { s.port with run := false, interruptEnable := e } ∧
    HostBytesKept s t ∧ t.slots = s.slots ∧ t.visitPointer = s.visitPointer ∧ t.latch = s.latch ∧
    t.attentionCount = s.attentionCount ∧ t.shelfTime = s.shelfTime ∧ t.pending = s.pending) ∧
  ∀ (e : Bool) (s : State), s.control.shelf = .halted →
    exec (.halt e) s = .next { s with port.run := false, port.interruptEnable := e }

/-- R19: a soft reset, in any shelf state. -/
def Obligations.SoftResetReturnsToPowerOn : Prop :=
  ∀ (r e : Bool) (s : State), ∃ t, exec (.softReset r e) s = .next t ∧
    (∀ n, t.line n = { haltedLine (s.line n) with
      cls := { (haltedLine (s.line n)).cls with baseline := 0, leakageHigh := false }
      sup := { (haltedLine (s.line n)).sup with
        state := .outOfService, profile := 0
        parties := Vector.replicate 4 { code := 0, load := 0, lead := .a } }
      rep := { (s.line n).rep with
        written := s.readByte (recordBase n + 0x18), taken := s.readByte (recordBase n + 0x18)
        dropped := 0, countFault := false, attention := false } }) ∧
    t.control = { s.control with shelf := .halted, startingEnd := none } ∧
    t.sched = { slot := 0, nextBoundary := none, loads := Vector.replicate 12 0, bookings := [],
                waits := [] } ∧
    t.source = { state := .absent, goodCount := 0, lastCrossing := none, lossDeadline := none } ∧
    t.latch = none ∧ t.attentionCount = 0 ∧ t.interruptAsserted = false ∧
    ReleasedWordsSent s t ∧ t.port = { s.port with run := false, interruptEnable := false } ∧
    HostBytesKept s t ∧ t.slots = s.slots ∧ t.visitPointer = s.visitPointer ∧
    t.shelfTime = s.shelfTime ∧ t.pending = s.pending

/-- R17, R22: when the 16 ms have run the shelf enters RUNNING, the slot clock starts with the boundary of
slot 0, and a generation written during STARTING is taken there.  The ring lists are empty until then
(`RingingOnlyWhileRunning`).  Before the 16 ms have run nothing but the writes comes about (logs 5 and 28, the
model's choice). -/
def Obligations.StartingEndsInRunning : Prop :=
  (∀ (e : Nat) (early late : List BusWrite) (s : State), s.control.shelf = .starting →
    s.control.startingEnd = some e → e ≤ s.shelfTime → s.sched.bookings = [] → s.sched.waits = [] →
    ∃ t, exec (.startingEnd early late) s = .next t ∧
      (if s.readByte 0x100 = s.control.generationTaken then
        t.control = { s.control with shelf := .running, startingEnd := none } ∧
          t.port = (s.landed early late).port
      else
        t.control = { shelf := .running, startingEnd := none
                      params := (s.writes early).loadedParams
                      generationTaken := (s.writes early).readByte 0x100
                      profileAdjusted := (s.writes early).profileMap
                      codeAdjusted := (s.writes early).codeMap } ∧
          t.port = { (s.landed early late).port with
            parametersAdjusted := s.port.parametersAdjusted || (s.writes early).loadAdjusts }) ∧
      t.sched = { s.sched with slot := 0, nextBoundary := some (s.shelfTime + 500) } ∧
      t.lines = s.lines ∧ t.sent = s.sent ∧ HostBytesKept (s.landed early late) t ∧
      t.source = s.source ∧
      t.slots = s.slots ∧ t.visitPointer = s.visitPointer ∧ t.latch = s.latch ∧
      t.shelfTime = s.shelfTime ∧ t.pending = s.pending) ∧
  ∀ (early late : List BusWrite) (s : State),
    (s.control.shelf ≠ .starting ∨ ∀ e, s.control.startingEnd = some e → s.shelfTime < e) →
    exec (.startingEnd early late) s = .next (s.landed early late)

/-- R21: each general parameter is clamped to its range, and the load counts as adjusting the general
parameters exactly when one of them is out of its range. -/
def Obligations.GeneralParametersClamped : Prop :=
  ∀ s : State,
    s.loadedParams.capacity = min 1000 (s.hostWord 0x102).toNat ∧
    s.loadedParams.tripMode = (if s.hostByte 0x101 = 0 then .immediate else .atCrossing) ∧
    s.loadedParams.guardTime = 2 * (max 10 (min 200 (s.hostWord 0x104).toNat) / 2) ∧
    s.loadedParams.halfPeriod = max 5 (min 40 (s.hostWord 0x106).toNat) ∧
    s.loadedParams.waitLimit = max 1 (min 20 (s.hostByte 0x108).toNat) ∧
    s.loadedParams.priorityAge = max 1 (min 10 (s.hostByte 0x109).toNat) ∧
    (∀ k : Fin 14, s.loadedParams.quietMask.getLsbD k.val = (s.hostWord 0x10A).getLsbD k.val) ∧
    s.loadedParams.testLow = (s.hostByte 0x10C).toNat ∧
    s.loadedParams.testHigh = max (s.hostByte 0x10D).toNat (s.hostByte 0x10C).toNat ∧
    GeneralInRange s.loadedParams ∧
    (s.rawGeneral.adjusted = s.rawGeneral ↔
      (s.hostWord 0x102).toNat ≤ 1000 ∧ (s.hostByte 0x101).toNat ≤ 1 ∧
      (10 ≤ (s.hostWord 0x104).toNat ∧ (s.hostWord 0x104).toNat ≤ 200 ∧
        (s.hostWord 0x104).toNat % 2 = 0) ∧
      (5 ≤ (s.hostWord 0x106).toNat ∧ (s.hostWord 0x106).toNat ≤ 40) ∧
      (1 ≤ (s.hostByte 0x108).toNat ∧ (s.hostByte 0x108).toNat ≤ 20) ∧
      (1 ≤ (s.hostByte 0x109).toNat ∧ (s.hostByte 0x109).toNat ≤ 10) ∧
      (s.hostByte 0x10C).toNat ≤ (s.hostByte 0x10D).toNat)

/-- R50, R51, R64, R65, R87: every profile field is clamped to its range, the millisecond fields are made
even, and the five ordering adjustments are applied in their order; the installed profile then satisfies
every range and ordering. -/
def Obligations.ProfilesClampedAndOrdered : Prop :=
  ∀ (s : State) (p : Fin 8),
    let f := profileField s p
    let q := s.loadedParams.profiles[p]
    q.d = max 1 (min 4 (f 0)) ∧ q.sq = 2 * (max 10 (min 400 (f 1)) / 2) ∧
    q.pbMin = 2 * (max 10 (min 100 (f 2)) / 2) ∧
    q.pbMax = max (2 * (max 20 (min 150 (f 3)) / 2)) q.pbMin ∧
    q.flMin = max (2 * (max 60 (min 1000 (f 4)) / 2)) (q.pbMax + 2) ∧
    q.flMax = max (2 * (max 100 (min 2000 (f 5)) / 2)) (q.flMin + 2) ∧
    q.idt = max (2 * (max 60 (min 1000 (f 6)) / 2)) (q.pbMax + 2) ∧
    q.fdt = max 2 (min 60 (f 7)) ∧ q.cdt = max 2 (min 120 (f 8)) ∧
    q.how = max 2 (min 120 (f 9)) ∧ q.mc = max 8 (min 120 (f 10)) ∧
    q.mo = min (max 4 (min 116 (f 11))) (q.mc - 4) ∧ q.mt = max 16 (min 160 (f 12)) ∧
    q.ll = max 8 (min 120 (f 13)) ∧ q.tripConfirm = max 1 (min 8 (f 14)) ∧
    q.pdt = max 2 (min 60 (f 15)) ∧ FieldsInRange q ∧ Installed q

/-- R89: the mask that a ring code compiles to, and when the compilation adjusts the code. -/
def Obligations.RingCodesCompileToMasks : Prop :=
  ∀ (s : State) (c : Fin 16),
    (∀ k : Fin 12, s.loadedParams.masks[c][k] = true ↔ ∃ i, i < pairCount s c ∧
      pairStart s c i ≤ k.val ∧ k.val < pairStart s c i + onLength s c i) ∧
    s.loadedParams.masks[c][(0 : FrameSlot)] = true ∧
    ((s.rawCode c).isAdjusted = true ↔
      codeByte s c 0 ≠ pairCount s c ∨
      (∃ i, i < pairCount s c ∧ (codeByte s c (1 + 2 * i) ≠ onLength s c i ∨
        codeByte s c (2 + 2 * i) ≠ offLength s c i)) ∨
      12 < pairStart s c (pairCount s c))

/-- R20, stages 1, 5 and 6, at RUN, and the writes that meet stage 1: `early` land before their words are read
and are taken, `late` wait for a later load.  The generation read is taken, both maps are rewritten whole, and
*parameters adjusted* is set if the load changes any value, and otherwise left as it stands. -/
def Obligations.LoadRecordsAdjustments : Prop :=
  ∀ (e : Bool) (early late : List BusWrite) (s : State), s.control.shelf = .halted →
    let r := s.writes early
    ∃ t, exec (.run e early late) s = .next t ∧
    t.readByte 0x03 = r.readByte 0x100 ∧
    (∀ off, hostOwned off = true → t.readByte off = (r.writes late).readByte off) ∧
    (∀ p : Fin 8, (t.readByte 0x1C).getLsbD p.val =
      decide (r.loadedParams.profiles[p] ≠ r.rawProfile p)) ∧
    (∀ c : Fin 16, (t.readWord 0x0F).getLsbD c.val = (r.rawCode c).isAdjusted) ∧
    (t.port.parametersAdjusted = true ↔ s.port.parametersAdjusted = true ∨
      r.rawGeneral.adjusted ≠ r.rawGeneral ∨
      (∃ p : Fin 8, r.loadedParams.profiles[p] ≠ r.rawProfile p) ∨
      ∃ c : Fin 16, (r.rawCode c).isAdjusted = true)

/-! ### Order intake and the orders -/

/-- R10, R141: a visit that takes no order, any visit in HALTED and STARTING among them, reads the line's taken
count, judges it against the written count, and moves the visit pointer on.  That the count is read before the
writes that the visit carries, and that they land though no mailbox is read, is the model's reading (log 9). -/
def Obligations.VisitReadsTakenCount : Prop :=
  ∀ (us : Fin 1000) (early late : List BusWrite) (s : State),
    let n := s.visitPointer
    let k := (s.line n).rep
    let taken := s.readByte (recordBase n + 0x18)
    let untaken := (k.written.toNat + 256 - taken.toNat) % 256
    s.control.shelf ≠ .running ∨ s.readByte (recordBase n + 0x10) = (s.line n).takenSeq →
    ∃ t, exec (.orderIntakeVisit us early late) s = .next t ∧
      t.visitPointer.val = (n.val + 1) % 64 ∧
      t.line n = { s.line n with rep := { k with
        taken := taken
        attention := if untaken = 0 then false else k.attention
        countFault := if untaken = 0 then false else if 8 < untaken then true else k.countFault } } ∧
      (∀ m, m ≠ n → t.line m = s.line m) ∧ HostBytesKept (s.landed early late) t ∧
      t = { s.landed early late with visitPointer := t.visitPointer, lines := t.lines, latch := t.latch }

/-- R11, R12: while RUNNING, a visit takes the posted order exactly when the two sequence reads agree and
differ from the taken sequence; it then acts as the order's row does, with the fields as they were read,
and otherwise it takes nothing.  The writes `early` land before the fields are read and `late` after (log
9, the model's reading of when a write can land). -/
def Obligations.VisitTakesPostedOrder : Prop :=
  ∀ (us : Fin 1000) (early late : List BusWrite) (s : State), s.control.shelf = .running →
    let n := s.visitPointer
    let fields := (s.readTakenCount n).writes early
    let s2 := fields.writes late
    let seq := s.mailSequence n
    let visit := exec (.orderIntakeVisit us early late) s
    (seq ≠ (s.line n).takenSeq → s2.mailSequence n = seq →
      (∀ i, postedRow fields n seq us = some i → ∃ t, exec i s2 = .next t ∧
        visit = .next { t with visitPointer := n + 1 }) ∧
      (postedRow fields n seq us = none → ∃ t, visit = .next t ∧ t.visitPointer = n + 1 ∧
        t.line n = answered s2 (s2.line n) .refusedField 1 seq ∧ t.sched = s2.sched)) ∧
    (seq = (s.line n).takenSeq ∨ s2.mailSequence n ≠ seq →
      visit = .next { s2 with visitPointer := n + 1 })

/-- R12: a NOTE is accepted in every state and a kind from 8 to 255 is refused; neither changes anything in
the line. -/
def Obligations.NoteAcceptedBadKindRefused : Prop :=
  (∀ (n : LineNo) (seq : Byte) (s : State), Takes s n seq →
    OnlyAnswered (.note n seq) n .accepted 0 seq s) ∧
  ∀ (n : LineNo) (seq kind : Byte) (s : State), 8 ≤ kind.toNat → Takes s n seq →
    OnlyAnswered (.badKind n seq kind) n .refusedBadKind kind seq s

/-- R82, R71, R36: SERVICE ON, in every state, and SERVICE OFF, in every state. -/
def Obligations.ServiceOrders : Prop :=
  (∀ (n : LineNo) (seq : Byte) (s : State), Takes s n seq →
    (s.stateOf n = .outOfService → s.cardPresent n = true →
      ∃ t, exec (.serviceOn n seq) s = .next t ∧
        t.line n = answered s (learningLine (s.line n)) .accepted 1 seq ∧ t.sched = s.sched) ∧
    (s.stateOf n = .outOfService → s.cardPresent n = false →
      OnlyAnswered (.serviceOn n seq) n .refusedNoCard 1 seq s) ∧
    (s.stateOf n ≠ .outOfService → OnlyAnswered (.serviceOn n seq) n .accepted 1 seq s)) ∧
  ∀ (n : LineNo) (seq : Byte) (s : State), Takes s n seq →
    (s.stateOf n = .outOfService → OnlyAnswered (.serviceOff n seq) n .accepted 1 seq s) ∧
    (s.stateOf n ≠ .outOfService → ∃ t, exec (.serviceOff n seq) s = .next t ∧
      (t.line n = if s.stateOf n = .testing then
          reported s (answered s (outLine (s.line n)) .accepted 1 seq) (.testResult .abandoned 0)
        else answered s (outLine (s.line n)) .accepted 1 seq) ∧
      LeavesLists n s t)

/-- R83: a CONFIGURE's field checks, where it is accepted, the clamp of a load above 40 RU, and the
relearning that a changed profile index starts in IDLE. -/
def Obligations.ConfigureReplacesConfiguration : Prop :=
  ∀ (n : LineNo) (seq : Byte) (b : ConfigBytes) (s : State), Takes s n seq →
    let bad := 7 < b.profile.toNat ∨
      ∃ p : Fin 4, 15 < b.parties[p].code.toNat ∨ 2 < b.parties[p].lead.toNat
    (bad → OnlyAnswered (.configure n seq b) n .refusedField 2 seq s) ∧
    (¬bad → s.stateOf n ≠ .outOfService → s.stateOf n ≠ .idle →
      OnlyAnswered (.configure n seq b) n .refusedState 2 seq s) ∧
    (¬bad → s.stateOf n = .outOfService ∨ s.stateOf n = .idle →
      ∃ t, exec (.configure n seq b) s = .next t ∧
        (t.line n).sup.profile.val = b.profile.toNat ∧
        (∀ p : Fin 4, (t.line n).sup.parties[p].code.val = b.parties[p].code.toNat ∧
          (t.line n).sup.parties[p].load = min 40 b.parties[p].load.toNat ∧
          leadCode (t.line n).sup.parties[p].lead = b.parties[p].lead.toNat) ∧
        t.line n =
          (let l := { s.line n with sup := { (s.line n).sup with
              profile := (t.line n).sup.profile, parties := (t.line n).sup.parties } }
          answered s
            (if s.stateOf n = .idle ∧ (s.line n).sup.profile.val ≠ b.profile.toNat
              then learningLine l else l)
            (if ∃ p : Fin 4, 40 < b.parties[p].load.toNat then .acceptedAdjusted else .accepted)
            2 seq) ∧
        t.sched = s.sched)

/-- R84, R85, with R80's CDT deadline: CONNECT, and RELEASE, whose effect depends on the confirmed state.  That a
RELEASE in CLEARDOWN is refused, R86 notwithstanding, is the model's choice between the rules (log 29). -/
def Obligations.ConnectAndRelease : Prop :=
  (∀ (n : LineNo) (seq : Byte) (s : State), Takes s n seq →
    (s.stateOf n = .dialTone ∨ s.stateOf n = .dialing → ∃ t, exec (.connect n seq) s = .next t ∧
      t.line n = answered s (movedLine (s.line n) .inCall) .accepted 5 seq ∧ t.sched = s.sched) ∧
    (s.stateOf n = .inCall → OnlyAnswered (.connect n seq) n .accepted 5 seq s) ∧
    (s.stateOf n ≠ .dialTone → s.stateOf n ≠ .dialing → s.stateOf n ≠ .inCall →
      OnlyAnswered (.connect n seq) n .refusedState 5 seq s)) ∧
  ∀ (n : LineNo) (seq tone : Byte) (s : State), Takes s n seq →
    (1 < tone.toNat → OnlyAnswered (.release n seq tone) n .refusedField 6 seq s) ∧
    (tone.toNat ≤ 1 →
      (s.stateOf n = .dialTone ∨ s.stateOf n = .dialing ∨ s.stateOf n = .inCall →
        ∃ t, exec (.release n seq tone) s = .next t ∧ t.sched = s.sched ∧
          t.line n = answered s
            (if (s.line n).cls.confirmed = .closed then
              (let l := movedLine (s.line n) .cleardown
              { l with
                sup.deadline := some
                  (.cdt, BitVec.ofNat 32 (s.shelfTime + (s.profileOf n).cdt * 1000))
                rel.tone := if tone = 0 then .busy else .none })
            else movedLine (s.line n) .idle) .accepted 6 seq) ∧
      (s.stateOf n = .idle → OnlyAnswered (.release n seq tone) n .accepted 6 seq s) ∧
      (s.stateOf n ≠ .dialTone → s.stateOf n ≠ .dialing → s.stateOf n ≠ .inCall →
        s.stateOf n ≠ .idle → OnlyAnswered (.release n seq tone) n .refusedState 6 seq s))

/-- R95, R105: the checks of a RING, in their order; a refused RING changes nothing. -/
def Obligations.RingRefusals : Prop :=
  ∀ (n : LineNo) (seq party maxFrames : Byte) (s : State), Takes s n seq →
    (3 < party.toNat → OnlyAnswered (.ring n seq party maxFrames) n .refusedField 3 seq s) ∧
    ∀ p : Fin 4, party.toNat = p.val →
      (s.cardPresent n = false →
        OnlyAnswered (.ring n seq party maxFrames) n .refusedNoCard 3 seq s) ∧
      (s.cardPresent n = true →
        (s.stateOf n ≠ .idle → s.stateOf n ≠ .ringing → s.stateOf n ≠ .ringWait →
          OnlyAnswered (.ring n seq party maxFrames) n .refusedState 3 seq s) ∧
        (s.stateOf n = .idle ∨ s.stateOf n = .ringing ∨ s.stateOf n = .ringWait →
          ((s.line n).sup.parties[p].load = 0 →
            OnlyAnswered (.ring n seq party maxFrames) n .refusedField 3 seq s) ∧
          ((s.line n).sup.parties[p].load ≠ 0 →
            s.control.params.capacity < (s.line n).sup.parties[p].load →
            OnlyAnswered (.ring n seq party maxFrames) n .refusedCapacity 3 seq s)))

/-- R97, R106: a RING accepted in IDLE books the party at the first rotation from c + 1 on at which it
fits, or puts it at the tail of the wait list, where it finds none or the source is not RUNNING. -/
def Obligations.RingFromIdle : Prop :=
  ∀ (n : LineNo) (seq party maxFrames : Byte) (p : Fin 4) (o : OrderOutcome) (s : State),
    Takes s n seq → s.stateOf n = .idle → RingPasses s n party maxFrames p o →
    (s.source.state = .running → ∀ d : Fin 12, FitsAt s n p (s.sched.slot + 1 + d) →
      (∀ j : Fin 12, j < d → ¬FitsAt s n p (s.sched.slot + 1 + j)) →
      ∃ t, exec (.ring n seq party maxFrames) s = .next t ∧
        t.line n = reported s (answered s (movedLine (s.line n) .ringing) o 3 seq)
          (.ringBooked (d.val + 1) (s.sched.slot + 1 + d)) ∧
        t.sched.bookings = s.sched.bookings ++
          [{ line := n, party := p, rotation := s.sched.slot + 1 + d, mask := s.maskOf n p,
             load := (s.line n).sup.parties[p].load, framesRung := 0,
             maxFrames := min 60 maxFrames.toNat, firstBurst := false, change := none }] ∧
        (∀ k : FrameSlot, t.sched.loads[k] = s.sched.loads[k] +
          if (s.maskOf n p)[k - (s.sched.slot + 1 + d)] = true
            then (s.line n).sup.parties[p].load else 0) ∧
        t.sched.waits = s.sched.waits) ∧
    (s.source.state ≠ .running ∨ (∀ j : Fin 12, ¬FitsAt s n p (s.sched.slot + 1 + j)) →
      ∃ t, exec (.ring n seq party maxFrames) s = .next t ∧
        t.line n = reported s (answered s (movedLine (s.line n) .ringWait) o 3 seq)
          (.ringQueued (if s.source.state = .running then .noRoom else .sourceDown)
            (waitPosition t.sched.waits n)) ∧
        t.sched = { s.sched with waits := s.sched.waits ++
          [{ line := n, party := p, maxFrames := min 60 maxFrames.toNat, framesWaited := 0,
             blocking := false, mark := none }] } ∧
        ((∀ e ∈ s.sched.waits, e.line ≠ n) →
          waitPosition t.sched.waits n = s.sched.waits.length + 1))

/-- R107: a RING accepted in RINGING is the booking's pending change; one accepted in RING WAIT replaces the
wait entry's party and max frames. -/
def Obligations.RingAgainChangesParty : Prop :=
  ∀ (n : LineNo) (seq party maxFrames : Byte) (p : Fin 4) (o : OrderOutcome) (s : State),
    Takes s n seq → RingPasses s n party maxFrames p o →
    (s.stateOf n = .ringing → ∃ t, exec (.ring n seq party maxFrames) s = .next t ∧
      t.line n = answered s (s.line n) o 3 seq ∧ t.sent = s.sent ∧
      t.sched = { s.sched with bookings := s.sched.bookings.map fun b =>
        if b.line = n then
          { b with change := some ⟨p, min 60 maxFrames.toNat, .order⟩ } else b }) ∧
    (s.stateOf n = .ringWait → ∃ t, exec (.ring n seq party maxFrames) s = .next t ∧
      t.line n = answered s (s.line n) o 3 seq ∧ t.sent = s.sent ∧
      t.sched = { s.sched with waits := s.sched.waits.map fun e =>
        if e.line = n then { e with party := p, maxFrames := min 60 maxFrames.toNat } else e })

/-- R108: STOP, in each state. -/
def Obligations.StopEndsRinging : Prop :=
  ∀ (n : LineNo) (seq : Byte) (s : State), Takes s n seq →
    (s.stateOf n = .ringing → ∃ t, exec (.stop n seq) s = .next t ∧
      (Busy (s.line n) → t.line n = answered s (guardedLine (s.line n) .idle) .accepted 4 seq) ∧
      (¬Busy (s.line n) → t.line n = answered s (movedLine (s.line n) .idle) .accepted 4 seq) ∧
      t.sched.bookings = s.sched.bookings.filter (fun b => decide (b.line ≠ n)) ∧
      t.sched.waits = s.sched.waits ∧ (LoadsMatch s → LoadsMatch t)) ∧
    (s.stateOf n = .ringWait → ∃ t, exec (.stop n seq) s = .next t ∧
      t.line n = answered s (movedLine (s.line n) .idle) .accepted 4 seq ∧
      t.sched = { s.sched with waits := s.sched.waits.filter (fun e => decide (e.line ≠ n)) }) ∧
    (s.stateOf n = .ringGuard → ∃ t, exec (.stop n seq) s = .next t ∧ t.sched = s.sched ∧
      t.line n = answered s { s.line n with sup := { (s.line n).sup with
        guardRecord := (s.line n).sup.guardRecord.map fun g =>
          match g.target with
          | .ringWait _ _ _ => { g with target := .idle }
          | .inCall => g
          | .idle => g } } .accepted 4 seq) ∧
    (s.stateOf n ≠ .ringing → s.stateOf n ≠ .ringWait → s.stateOf n ≠ .ringGuard →
      OnlyAnswered (.stop n seq) n .refusedState 4 seq s)

/-- R136: the checks of a TEST, and what an accepted one does. -/
def Obligations.TestOrderStartsTest : Prop :=
  ∀ (n : LineNo) (seq : Byte) (us : Fin 1000) (s : State), Takes s n seq →
    (s.cardPresent n = false → OnlyAnswered (.test n seq us) n .refusedNoCard 7 seq s) ∧
    (s.cardPresent n = true → s.stateOf n ≠ .idle →
      OnlyAnswered (.test n seq us) n .refusedState 7 seq s) ∧
    (s.cardPresent n = true → s.stateOf n = .idle → ∃ t, exec (.test n seq us) s = .next t ∧
      (let l := movedLine (s.line n) .testing
      t.line n = answered s { l with rel := { l.rel with
        testRelay := true
        test := some { settleEnd := s.instantAt us + 10 * 4000, count := 0, sum := 0 } } }
        .accepted 7 seq) ∧
      t.sched = s.sched ∧
      ((s.line n).rel.testRelay = false →
        t.sent = { line := n, setting := (t.line n).setting } :: s.sent))

/-- Section 95: an order's or a sample's command touches its own line, that line's entries of the two ring
lists and its relay words, and nothing else (R13, R40): no other line, register, host-owned byte or
shelf state.  Where its tone, ring relay or test relay changes on a present card it sends one word with the
whole setting, and it sends none where they stay (R130, R131, R134). -/
def Obligations.LineCommandsTouchOnlyTheirLine : Prop :=
  ∀ (i : Instr) (n : LineNo) (s : State), lineOf i = some n →
    ∃ t, exec i s = .next t ∧ OnlyLine n s t ∧
      (TonesFit s → Installed (s.profileOf n) → SettingsSent s t)

/-! ### Sample arrivals -/

/-- R24, R25, R26: a line of a present card receives its sample, with the next index, while the shelf is
STARTING or RUNNING, and none otherwise; a read that the card does not answer is a sample of 0.  With no
deadline due, a sample of which the line's state acts on nothing leaves the line but for its index, its
classifier and the leakage check (R44; the baseline moves in IDLE alone, `BaselineTracksIdleSamples`), and in
OUT OF SERVICE but for its index (R39, R70).  That the rows for what such a sample does not bring about change
nothing is the model's choice (log 6). -/
def Obligations.SampleAdvancesIndex : Prop :=
  ∀ (n : LineNo) (a : Option Byte) (s : State),
    (Sampled s n → ∃ t, exec (.sampleArrival n a) s = .next t ∧
      (t.line n).sampleIndex = (s.line n).sampleIndex + 1) ∧
    (¬Sampled s n → exec (.sampleArrival n a) s = .next s) ∧
    exec (.sampleArrival n none) s = exec (.sampleArrival n (some 0)) s ∧
    (s.deadlineDue n = none →
      (Sampled s n → s.modeOf n = .off → BringsNothing s n a ∧
        ∃ t, exec (.sampleArrival n a) s = .next t ∧ t.sched = s.sched ∧
          t.line n = { s.line n with sampleIndex := (s.line n).sampleIndex + 1 }) ∧
      ∀ l, Uneventful s n (sampleOf a) l → BringsNothing s n a ∧
        ∃ t, exec (.sampleArrival n a) s = .next t ∧ t.sched = s.sched ∧
          t.line n = leakChecked s (s.profileOf n).ll
            { l with cls := { l.cls with baseline := (t.line n).cls.baseline } } ∧
          (s.stateOf n ≠ .idle ∨ s.modeOf n = .transient →
            (t.line n).cls.baseline = (s.line n).cls.baseline))

/-- R37, R38: the thresholds, from the baseline as it stands, the open one at least 4 below the close one;
and the raw hook state, which follows the sample with hysteresis in the modes with hook decisions, and keeps
its value in the other modes but learn while the line stays in its supervision state. -/
def Obligations.RawHookHasHysteresis : Prop :=
  (∀ (s : State) (n : LineNo), Installed (s.profileOf n) → (s.line n).cls.baseline ≤ 4080 →
    let L := (s.line n).cls.baseline / 16
    closeAt s n = min 255 (L + (s.profileOf n).mc) ∧
    openAt s n = min (L + (s.profileOf n).mo) (closeAt s n - 4) ∧
    8 ≤ closeAt s n ∧ closeAt s n ≤ 255 ∧ 4 ≤ openAt s n ∧ openAt s n + 4 ≤ closeAt s n) ∧
  ∀ (n : LineNo) (a : Option Byte) (s : State), Sampled s n →
    ∃ t, exec (.sampleArrival n a) s = .next t ∧
      (Hooked s n → closeAt s n ≤ sampleOf a → (t.line n).cls.raw = .closed) ∧
      (Hooked s n → sampleOf a < closeAt s n → sampleOf a ≤ openAt s n →
        (t.line n).cls.raw = .opened) ∧
      (Hooked s n → openAt s n < sampleOf a → sampleOf a < closeAt s n →
        (t.line n).cls.raw = (s.line n).cls.raw) ∧
      (s.modeOf n = .off ∨ s.modeOf n = .burst ∨ s.modeOf n = .transient →
        (t.line n).cls.raw = (s.line n).cls.raw) ∧
      (s.modeOf n = .ignore → t.stateOf n = s.stateOf n →
        (t.line n).cls.raw = (s.line n).cls.raw)

/-- R41, R43: a line's baseline moves at a sample only by the update of R41, or at the end of a learning
that found the line on-hook, where it becomes 16 m. -/
def Obligations.BaselineTracksIdleSamples : Prop :=
  ∀ (n : LineNo) (a : Option Byte) (s : State), Sampled s n → (s.line n).cls.baseline ≤ 4080 →
    ∃ t, exec (.sampleArrival n a) s = .next t ∧
      (t.line n).cls.baseline =
        (if s.stateOf n = .idle ∧ (s.line n).inWindow (s.arrivalInstant n) = false ∧
            t.stateOf n = .idle ∧ (t.line n).cls.confirmed = .opened ∧
            sampleOf a ≤ closeAt s n then
          (if (s.line n).cls.baseline ≤ 16 * sampleOf a then
            (s.line n).cls.baseline + (16 * sampleOf a - (s.line n).cls.baseline) / 16
          else
            (s.line n).cls.baseline - ((s.line n).cls.baseline - 16 * sampleOf a) / 16)
        else if s.stateOf n = .learning ∧ 7 ≤ (s.line n).cls.learnCount ∧
            min (s.line n).cls.learnMin (sampleOf a) ≤ (s.profileOf n).ll then
          16 * min (s.line n).cls.learnMin (sampleOf a)
        else (s.line n).cls.baseline) ∧
      (t.line n).cls.baseline ≤ 4080

/-- R43, R44: what a sample does to a line in LEARNING; the eighth ends it, with the leakage check. -/
def Obligations.LearningEndsAtEighthSample : Prop :=
  ∀ (n : LineNo) (a : Option Byte) (s : State), Sampled s n → s.stateOf n = .learning →
    (s.line n).sup.deadline = none →
    let l := s.line n
    let m := min l.cls.learnMin (sampleOf a)
    (l.cls.learnCount < 7 → ∃ t, exec (.sampleArrival n a) s = .next t ∧
      t.line n = { l with
        sampleIndex := l.sampleIndex + 1
        cls := { l.cls with learnCount := l.cls.learnCount + 1, learnMin := m } }) ∧
    (l.cls.learnCount = 7 → ∃ t, exec (.learningEnd n a) s = .next t ∧
      t.line n = leakChecked s (s.profileOf n).ll { l with
        sampleIndex := l.sampleIndex + 1
        cls := { l.cls with
          learnCount := 8, learnMin := m, confirmed := .opened, runCount := 0, tripCount := 0
          baseline := if m ≤ (s.profileOf n).ll then 16 * m else l.cls.baseline
          raw := if m ≤ (s.profileOf n).ll then .opened else .closed }
        sup := { l.sup with state := .idle, deadline := none }
        rel := { l.rel with tone := .none } } ∧
      t.sched = s.sched)

/-- R45: the debounce run at a sample with hook decisions: the confirmed state changes exactly when the run
reaches D, and the run counts the samples that differ from it. -/
def Obligations.DebounceConfirmsAtD : Prop :=
  ∀ (n : LineNo) (a : Option Byte) (s : State), Sampled s n → Hooked s n →
    ∃ t, exec (.sampleArrival n a) s = .next t ∧
      ((t.line n).cls.raw = (s.line n).cls.confirmed →
        (t.line n).cls.confirmed = (s.line n).cls.confirmed ∧ (t.line n).cls.runCount = 0) ∧
      ((t.line n).cls.raw ≠ (s.line n).cls.confirmed →
        (t.line n).cls.runStart =
          runStartAt (s.line n).cls ((s.line n).sampleIndex + 1) ∧
        ((s.profileOf n).d ≤ (s.line n).cls.runCount + 1 →
          (t.line n).cls.confirmed = (t.line n).cls.raw ∧ (t.line n).cls.runCount = 0) ∧
        ((s.line n).cls.runCount + 1 < (s.profileOf n).d →
          (t.line n).cls.confirmed = (s.line n).cls.confirmed ∧
          (t.line n).cls.runCount = (s.line n).cls.runCount + 1))

/-- R45, R52: a confirmed open sets k0 to the run start and the marker to m0, which it keeps; a confirmed
open in SEIZING ends the seizure.  A break that this very sample declares a clear is told by `LongBreakIsClear`,
and a deadline that is due by `DeadlinesExpire`. -/
def Obligations.ConfirmedOpenStartsBreak : Prop :=
  ∀ (n : LineNo) (a : Option Byte) (s : State) (k0 : BitVec 32),
    runStartAt (s.line n).cls ((s.line n).sampleIndex + 1) = some k0 → Sampled s n → Hooked s n →
    (s.line n).cls.confirmed = .closed → ¬ShowsClosed s n (sampleOf a) →
    (s.profileOf n).d ≤ (s.line n).cls.runCount + 1 →
    elapsedAt k0 ((s.line n).sampleIndex + 1) ≤ (s.profileOf n).flMax →
    s.deadlineDue n = none →
    ∃ t, exec (.confirmedOpen n a) s = .next t ∧
      (t.line n).cls.confirmed = .opened ∧ (t.line n).cls.raw = .opened ∧
      (t.line n).cls.runCount = 0 ∧ (t.line n).cls.breakStart = some k0 ∧
      (t.line n).cls.bridge = (s.line n).cls.makeStart ∧
      (t.line n).cls.makeStart = (s.line n).cls.makeStart ∧
      t.stateOf n = (if s.stateOf n = .seizing then .idle else s.stateOf n) ∧
      t.sched = s.sched

/-- R45, R52, R56, R57: a confirmed close takes m0 from the run start, or from the marker where the break it
finishes is a glitch and the marker is set, and clears k0 and the marker where it is of class clear. -/
def Obligations.ConfirmedCloseEndsBreak : Prop :=
  ∀ (n : LineNo) (a : Option Byte) (s : State) (m : BitVec 32),
    runStartAt (s.line n).cls ((s.line n).sampleIndex + 1) = some m → Sampled s n → Hooked s n →
    (s.line n).cls.confirmed = .opened → ShowsClosed s n (sampleOf a) →
    (s.profileOf n).d ≤ (s.line n).cls.runCount + 1 →
    ∃ t, exec (.confirmedClose n a) s = .next t ∧
      (t.line n).cls.confirmed = .closed ∧ (t.line n).cls.raw = .closed ∧
      (t.line n).cls.runCount = 0 ∧
      (∀ k0, (s.line n).cls.breakStart = some k0 →
        (2 * (m - k0).toNat < (s.profileOf n).pbMin →
          (t.line n).cls.makeStart = some ((s.line n).cls.bridge.getD m)) ∧
        ((s.profileOf n).pbMin ≤ 2 * (m - k0).toNat → (t.line n).cls.makeStart = some m)) ∧
      ((s.line n).cls.breakStart = none → (t.line n).cls.makeStart = some m) ∧
      (∀ k0, (s.line n).cls.breakStart = some k0 → Installed (s.profileOf n) →
        ((s.profileOf n).flMax < 2 * (m - k0).toNat →
          (t.line n).cls.breakStart = none ∧ (t.line n).cls.bridge = none) ∧
        (2 * (m - k0).toNat ≤ (s.profileOf n).flMax →
          (t.line n).cls.breakStart = some k0 ∧ (t.line n).cls.bridge = (s.line n).cls.bridge))


/-! ### What a sample brings about -/

/-- R72, R73: a close confirmed in IDLE, or a make sample there, takes the line to SEIZING, and a make in
SEIZING that reaches SQ qualifies the seizure: at the confirming sample already where its make stands at
SQ, whatever the class of the break that the close finishes, a clear too (R72; log 21). -/
def Obligations.MakeSeizesAndQualifies : Prop :=
  ∀ (s : State) (n : LineNo) (a : Option Byte) (m0 : BitVec 32) (len : Option Nat),
    MakeAt s n (sampleOf a) m0 len →
    let l := closedLine s n m0 len
    let idle := movedLine l .seizing
    let reaches := (s.profileOf n).sq ≤ makeElapsed s n m0
    let qualified (x : Line) : Line :=
      reported s (withDeadline s (stateLine x .dialTone .dial) .fdt (s.profileOf n).fdt) .seize
    (s.stateOf n = .idle →
      ((s.line n).cls.confirmed = .closed → Leaves (.sampleArrival n a) s n idle) ∧
      ((s.line n).cls.confirmed = .opened →
        (reaches → Leaves (.seize n a) s n (qualified idle)) ∧
        (¬reaches → Leaves (.confirmedClose n a) s n idle))) ∧
    (s.stateOf n = .seizing →
      (reaches → Leaves (.seize n a) s n (qualified l)) ∧
      (¬reaches → s.deadlineDue n = none → Leaves (.sampleArrival n a) s n l))

/-- R75, R76, with the flash of R78 and R79 and the pulse of R74: what a finished break does to a line that
dials or is in a call; in DIALING the close's own make is judged after it (R68, R77).  A break that clears or
replaces the deadline does so even where it is due (R67); one that leaves the line as it is, where it is not
(`DeadlinesExpire`).  A break of class clear is told by `LongBreakIsClear`. -/
def Obligations.FinishedBreaksCountPulses : Prop :=
  ∀ (s : State) (n : LineNo) (a : Option Byte) (m0 : BitVec 32) (L : Nat),
    MakeAt s n (sampleOf a) m0 (some L) → L ≤ (s.profileOf n).flMax →
    let l := closedLine s n m0 (some L)
    let dials (x : Line) : Line :=
      if (s.profileOf n).idt ≤ makeElapsed s n m0 then digitEnded s n x else x
    let rests := s.deadlineDue n = none
    let p := s.profileOf n
    let pulse := p.pbMin ≤ L ∧ L ≤ p.pbMax
    let gap := p.pbMax < L ∧ L < p.flMin
    let flash := p.flMin ≤ L
    let row := Instr.confirmedClose n a
    (s.stateOf n = .dialTone → (pulse → Leaves row s n
        (let x := stateLine l .dialing .none
        dials { x with sup := { x.sup with pulseCount := 1, errorSkip := false } })) ∧
      (¬pulse → rests → Leaves row s n l)) ∧
    (s.stateOf n = .dialing →
      (pulse → (s.line n).sup.errorSkip = true → rests → Leaves row s n (dials l)) ∧
      (pulse → (s.line n).sup.errorSkip = false → (s.line n).sup.pulseCount = 10 →
        Leaves row s n (dials (skippingLine s l .dialErrorTooManyPulses))) ∧
      (pulse → (s.line n).sup.errorSkip = false → (s.line n).sup.pulseCount ≠ 10 →
        (s.line n).sup.pulseCount = 0 ∨ rests → Leaves row s n (dials { l with sup := { l.sup with
          pulseCount := (s.line n).sup.pulseCount + 1
          deadline := if (s.line n).sup.pulseCount = 0 then none else l.sup.deadline } })) ∧
      (gap → (s.line n).sup.errorSkip = true → rests → Leaves row s n (dials l)) ∧
      (gap → (s.line n).sup.errorSkip = false →
        Leaves row s n (dials (skippingLine s l .dialErrorGapBreak))) ∧
      (flash → Leaves row s n (reported s (freshDigit s n l) (.flash L))) ∧
      (L < p.pbMin → rests → Leaves row s n (dials l))) ∧
    (s.stateOf n = .inCall → rests → (flash → Leaves row s n (reported s l (.flash L))) ∧
      (¬flash → Leaves row s n l)) ∧
    (s.stateOf n = .cleardown ∨ s.stateOf n = .howler ∨ s.stateOf n = .lockout → rests →
      Leaves row s n l)

/-- R77: a make in DIALING that reaches IDT ends the digit, or the skipped digit, once; the make may be one
that this sample bridges across a glitch. -/
def Obligations.MakeReachingIdtEndsDigit : Prop :=
  ∀ (s : State) (n : LineNo) (a : Option Byte) (m0 : BitVec 32) (len : Option Nat),
    MakeAt s n (sampleOf a) m0 len → s.stateOf n = .dialing → (s.profileOf n).idt ≤ makeElapsed s n m0 →
    (∀ L, len = some L → L < (s.profileOf n).pbMin) →
    let l := closedLine s n m0 len
    ((s.line n).sup.errorSkip = true → Leaves (.digit n a) s n (freshDigit s n l)) ∧
    ((s.line n).sup.errorSkip = false → (s.line n).sup.pulseCount ≠ 0 → Leaves (.digit n a) s n
      (reported s (freshDigit s n l) (.digit ((s.line n).sup.pulseCount % 10)))) ∧
    ((s.line n).sup.errorSkip = false → (s.line n).sup.pulseCount = 0 → s.deadlineDue n = none →
      Leaves (.sampleArrival n a) s n l)

/-- R67, R74, R78, R80, R81: each deadline expires, at an arrival at or after the time it names, in the state
that keeps it and in every mode that such a state's samples are taken in, the ring-transient window too, after
the sample's own items; a deadline that an item clears or replaces does not expire at that sample.  That a close
may be such an item by a break of class clear is the model's reading (log 21), and that the row of an expiry that
does not come about changes nothing, not even the sample index, its choice (log 6). -/
def Obligations.DeadlinesExpire : Prop :=
  ∀ (n : LineNo) (a : Option Byte) (kind : DeadlineKind) (s : State) (x : BitVec 32),
    (s.line n).sup.deadline = some (kind, x) → s.stateOf n = keeperOf kind →
    (kind = .pdt → (s.line n).sup.pulseCount = 0 ∧ (s.line n).sup.errorSkip = false) →
    let row : Instr := match kind with
      | .fdt => .fdtExpiry n a
      | .pdt => .pdtExpiry n a
      | .cdt => .cdtExpiry n a
      | .how => .howExpiry n a
    (∀ l, Uneventful s n (sampleOf a) l →
      ((BitVec.ofNat 32 s.shelfTime - x).toNat < 2 ^ 31 →
        exec (.sampleArrival n a) s = exec row s ∧
        (kind ≠ .how → Leaves row s n (reported s (withDeadline s (stateLine l .howler .howler) .how
          (s.profileOf n).how) (.timeout kind))) ∧
        (kind = .how → Leaves row s n (reported s (stateLine l .lockout .none) (.timeout .how)))) ∧
      (2 ^ 31 ≤ (BitVec.ofNat 32 s.shelfTime - x).toNat → exec row s = .next s ∧
        Leaves (.sampleArrival n a) s n l)) ∧
    (ItemMovesDeadline s n (sampleOf a) → exec row s = .next s)

/-- R54, R55, with the clear rows of R74 and R78 to R81: a break that outlasts FLmax is declared a clear at
that sample; k0 and the marker are cleared, the line stays confirmed open, and a line that is off-hook to the
Supervisor goes to IDLE with a CLEAR report.  In the other states the clear is ignored (R72, R73, R115, R117):
no report is written but one of the leakage check, and the baseline moves only in IDLE
(`BaselineTracksIdleSamples`).  A close that finishes a break of class clear (R56) clears such an off-hook line
in the same way, and the line, confirmed closed, is not seized at that sample: the model's reading (log 21).  In
the other states `MakeSeizesAndQualifies` and `MakeAnswersTheRing` tell such a close. -/
def Obligations.LongBreakIsClear : Prop :=
  (∀ (n : LineNo) (a : Option Byte) (s : State) (k0 : BitVec 32),
    BreakAt s n (sampleOf a) k0 → (s.profileOf n).flMax < breakElapsed s n k0 →
    let x := openedLine s n k0
    let l := { x with cls := { x.cls with breakStart := none, bridge := none } }
    let left := if s.stateOf n = .seizing ∧ (s.line n).cls.confirmed = .closed
      then stateLine l .idle .none else l
    (Calling s n → Leaves (.clear n a) s n (clearedLine s n l)) ∧
    (¬Calling s n → s.deadlineDue n = none → ∃ t, exec (.clear n a) s = .next t ∧ t.sched = s.sched ∧
      t.line n = leakChecked s (s.profileOf n).ll { left with
        cls := { left.cls with baseline := (t.line n).cls.baseline } } ∧
      (s.stateOf n ≠ .idle → (t.line n).cls.baseline = (s.line n).cls.baseline))) ∧
  ∀ (s : State) (n : LineNo) (a : Option Byte) (m0 : BitVec 32) (L : Nat),
    MakeAt s n (sampleOf a) m0 (some L) → (s.profileOf n).flMax < L → Calling s n →
    Leaves (.confirmedClose n a) s n (clearedLine s n (closedLine s n m0 (some L))) ∧
      exec (.sampleArrival n a) s = exec (.confirmedClose n a) s

/-- R115, R117: a make sample in RINGING, with the relay released, or in RING WAIT, whatever the class of the
break that a close confirmed there finishes: neither state acts on a clear (log 21).  That the answer cancels a
pending operate, which R63 has follow, is the model's choice between the rules (log 30). -/
def Obligations.MakeAnswersTheRing : Prop :=
  ∀ (s : State) (n : LineNo) (a : Option Byte) (m0 : BitVec 32) (len : Option Nat),
    MakeAt s n (sampleOf a) m0 len →
    let l := closedLine s n m0 len
    let reaches := (s.profileOf n).sq ≤ makeElapsed s n m0
    (s.stateOf n = .ringing → ∀ b, s.bookingOf n = some b →
      (b.firstBurst = true → ∃ t, exec (.sampleArrival n a) s = .next t ∧
        t.line n = leakChecked s (s.profileOf n).ll (answeredLine s l .inSilence b.framesRung) ∧
        t.sched.bookings = s.sched.bookings.filter (fun b => decide (b.line ≠ n)) ∧
        t.sched.waits = s.sched.waits ∧ (LoadsMatch s → LoadsMatch t)) ∧
      (b.firstBurst = false → reaches → ∃ t, exec (.answerBeforeRing n a) s = .next t ∧
        t.line n = leakChecked s (s.profileOf n).ll (answeredLine s l .beforeRing b.framesRung) ∧
        t.sched.bookings = s.sched.bookings.filter (fun b => decide (b.line ≠ n)) ∧
        t.sched.waits = s.sched.waits ∧ (LoadsMatch s → LoadsMatch t)) ∧
      (b.firstBurst = false → ¬reaches → s.deadlineDue n = none →
        Leaves (.sampleArrival n a) s n l)) ∧
    (s.stateOf n = .ringWait →
      (reaches → ∃ t, exec (.answerBeforeRing n a) s = .next t ∧
        t.line n = leakChecked s (s.profileOf n).ll (answeredLine s l .beforeRing 0) ∧
        t.sched = { s.sched with
          waits := s.sched.waits.filter (fun e => decide (e.line ≠ n)) }) ∧
      (¬reaches → s.deadlineDue n = none → Leaves (.sampleArrival n a) s n l))

/-- R116, with R48's count: a trip in a burst, in both trip release modes. -/
def Obligations.TripStartsGuard : Prop :=
  ∀ (n : LineNo) (a : Option Byte) (s : State) (b : Booking), s.bookingOf n = some b →
    Sampled s n → s.modeOf n = .burst → s.deadlineDue n = none →
    let l := { s.line n with sampleIndex := (s.line n).sampleIndex + 1 }
    let count (k : Nat) : Line := { l with cls := { l.cls with tripCount := k } }
    (sampleOf a < tripAt s n → Leaves (.sampleArrival n a) s n (count 0)) ∧
    (tripAt s n ≤ sampleOf a → (s.line n).cls.tripCount + 1 < (s.profileOf n).tripConfirm →
      Leaves (.sampleArrival n a) s n (count ((s.line n).cls.tripCount + 1))) ∧
    (tripAt s n ≤ sampleOf a → (s.profileOf n).tripConfirm ≤ (s.line n).cls.tripCount + 1 →
      ∃ t, exec (.trip n a) s = .next t ∧
        (let g := guardedLine (count 0) .inCall
        t.line n = leakChecked s (s.profileOf n).ll (reported s
          (match s.control.params.tripMode with
          | .atCrossing => g
          | .immediate => { g with
              sup := { g.sup with guardRecord := some {
                guardEnd := some (s.arrivalInstant n + s.control.params.guardTime * 4000)
                target := .inCall } }
              rel := { g.rel with
                ringRelay := none, pending := .none
                windowEnd := some (s.arrivalInstant n + 10 * 4000) } })
          (.answer .inBurst b.framesRung))) ∧
        t.sched.bookings = s.sched.bookings.filter (fun b => decide (b.line ≠ n)) ∧
        t.sched.waits = s.sched.waits ∧ (LoadsMatch s → LoadsMatch t))

/-- R118, R102: the guard ends at the first arrival at or after the guard end, toward its exit target; until
then the line's samples are ignored.  That m0 counts from the sample after the one that ends the guard is
the model's reading (log 12), and that the row of a guard's end that does not come about changes nothing, not
even the sample index, its choice (log 6). -/
def Obligations.GuardEndsTowardTarget : Prop :=
  ∀ (n : LineNo) (a : Option Byte) (s : State) (g : GuardRecord),
    (s.line n).sup.guardRecord = some g → Sampled s n → s.stateOf n = .ringGuard → s.deadlineDue n = none →
    let ended := g.guardEnd.any (fun e => decide (e ≤ s.arrivalInstant n)) = true
    (¬ended → exec (.guardEnd n a) s = .next s ∧ ∃ t, exec (.sampleArrival n a) s = .next t ∧
      t.line n = { s.line n with sampleIndex := (s.line n).sampleIndex + 1 } ∧ t.sched = s.sched) ∧
    (ended → ∃ t, exec (.guardEnd n a) s = .next t ∧
      ExitsTo s t n g.target)

/-- R137: the line test: settling, measuring, and the result at the eighth measuring sample.  That m0 counts
from the sample after it is the model's reading (log 12). -/
def Obligations.TestMeasuresEightSamples : Prop :=
  ∀ (n : LineNo) (a : Option Byte) (s : State) (x : TestRecord),
    (s.line n).rel.test = some x → Sampled s n → s.stateOf n = .testing → s.deadlineDue n = none →
    let k := (s.line n).sampleIndex + 1
    let l := { s.line n with sampleIndex := k }
    let now := s.arrivalInstant n
    let m := (x.sum + sampleOf a) / 8 - (s.line n).cls.baseline / 16
    (now < x.settleEnd → ∃ t, exec (.sampleArrival n a) s = .next t ∧ t.line n = l ∧
      t.sched = s.sched) ∧
    (x.settleEnd ≤ now → x.count < 7 → ∃ t, exec (.sampleArrival n a) s = .next t ∧
      t.line n = { l with rel := { l.rel with
        test := some { x with count := x.count + 1, sum := x.sum + sampleOf a } } } ∧
      t.sched = s.sched) ∧
    (x.settleEnd ≤ now → x.count = 7 → ∃ t, exec (.testEnd n a) s = .next t ∧
      t.line n = reported s
        { l with
          cls := resumed l.cls k
          sup := { l.sup with state := .idle, deadline := none }
          rel := { l.rel with tone := .none, testRelay := false, test := none } }
        (.testResult
          (if m < s.control.params.testLow then .failLow
          else if m ≤ s.control.params.testHigh then .pass else .failHigh) m) ∧
      t.sched = s.sched)


/-! ### Cards -/

/-- R27: what a presence change, and the expiry of a debounce deadline, do to a card slot, in each of its
states; a level that the input already shows is no change.  That CARD_LOST and CARD_BACK change nothing where no
deadline has been reached is the model's choice (log 5). -/
def Obligations.PresenceFollowsInputs : Prop :=
  ∀ (c : CardNo) (s : State),
    let k := s.slots[c]
    let slot (x : CardSlot) : State := { s with slots := s.slots.set c x }
    (∀ b : Bool, exec (.presenceChange c b) s = .next (slot
      (if b = k.seated then k
      else if k.presence = .present then
        { k with
          seated := b
          deadline := if b then none else some (k.deadline.getD (s.shelfTime + 100)) }
      else
        { k with
          seated := b
          deadline := if b then some (k.deadline.getD (s.shelfTime + 500)) else none }))) ∧
    (∀ e, k.deadline = some e → e ≤ s.shelfTime →
      (k.presence = .present → ∃ t, exec (.cardLost c) s = .next t ∧
        t.slots = (slot { k with presence := .absent, deadline := none }).slots) ∧
      (k.presence = .absent → ∃ t, exec (.cardBack c) s = .next t ∧
        t.slots = (slot { k with presence := .present, deadline := none }).slots)) ∧
    (k.deadline = none ∨ (∀ e, k.deadline = some e → s.shelfTime < e) →
      exec (.cardLost c) s = .next s ∧ exec (.cardBack c) s = .next s)

/-- R29, R30, R31: a card lost takes its eight lines to OUT OF SERVICE, removes their ring entries, and
writes their reports; no word is sent to the absent card, and no other line changes. -/
def Obligations.CardLostEndsItsLines : Prop :=
  ∀ (c : CardNo) (s : State), s.slots[c].presence = .present →
    ∀ e, s.slots[c].deadline = some e → e ≤ s.shelfTime →
    ∃ t, exec (.cardLost c) s = .next t ∧
      (∀ n, cardOf n = c → t.cardPresent n = false ∧ t.line n =
        (let l := outLine (s.line n)
        reported s (if s.stateOf n = .testing then reported s l (.testResult .abandoned 0) else l)
          .cardLost)) ∧
      (∀ n, cardOf n ≠ c → t.line n = s.line n ∧ t.cardPresent n = s.cardPresent n) ∧
      t.sched.bookings = s.sched.bookings.filter (fun b => decide (cardOf b.line ≠ c)) ∧
      t.sched.waits = s.sched.waits.filter (fun e => decide (cardOf e.line ≠ c)) ∧
      (LoadsMatch s → LoadsMatch t) ∧
      t = { s with slots := t.slots, lines := t.lines, sched := { s.sched with
        bookings := t.sched.bookings, waits := t.sched.waits, loads := t.sched.loads } }

/-- R33: a card back reports to its eight lines, which stay OUT OF SERVICE, and sends it a released word for
each of them. -/
def Obligations.CardBackReportsAndReleases : Prop :=
  ∀ (c : CardNo) (s : State), s.slots[c].presence = .absent → AbsentLinesOut s →
    ∀ e, s.slots[c].deadline = some e → e ≤ s.shelfTime →
    ∃ t, exec (.cardBack c) s = .next t ∧
      (∀ n, cardOf n = c → t.cardPresent n = true ∧ t.line n = reported s (s.line n) .cardBack) ∧
      (∀ n, cardOf n ≠ c → t.line n = s.line n ∧ t.cardPresent n = s.cardPresent n) ∧
      (∃ w : List RelayWord, t.sent = w ++ s.sent ∧ ∀ n, w.filter (fun x => decide (x.line = n)) =
        if cardOf n = c then [{ line := n, setting := .released }] else []) ∧
      t = { s with slots := t.slots, lines := t.lines, sent := t.sent }

/-! ### Slot boundaries -/

/-- R91, R112: a slot boundary advances the slot clock, asks each booking's relay to follow its mark, and
marks first bursts, here where no frame ends, the boundary is no frame boundary, and nothing is walked; what
every boundary leaves as it is; and the reload of a frame boundary (R22) with its eviction (R100 to R102) and
its pending changes (R119), here where no frame ends.  That an evicted booking waits with the max frames of its
pending change as stored is the model's reading (log 20). -/
def Obligations.SlotBoundaryRequestsRelays : Prop :=
  (∀ (i : Instr) (n : LineNo) (early late : List BusWrite) (s : State),
    i = .slotBoundary early late ∨ i = .ringEndNoAnswer n early late ∨
      i = .ringEndWaitLimit n early late →
    ∃ t, exec i s = .next t ∧ BoundaryFrame s early late t) ∧
  (∀ (s : State) (e : Nat) (early late : List BusWrite), s.sched.nextBoundary = some e →
    let c := s.sched.slot + 1
    Boundary s c e → c ≠ 0 → NoFrameEnds s c → (s.sched.bookings.map Booking.line).Nodup →
    s.source.state ≠ .running ∨ s.sched.waits = [] →
    ∃ t, exec (.slotBoundary early late) s = .next t ∧
      t.sched = { s.sched with
        slot := c, nextBoundary := some (e + 500), bookings := burstMarked s c } ∧
      (∀ b ∈ s.sched.bookings, t.line b.line = { s.line b.line with
        rel := { (s.line b.line).rel with pending := followed b c (s.line b.line) } }) ∧
      (∀ n, (∀ b ∈ s.sched.bookings, b.line ≠ n) → t.line n = s.line n) ∧
      t = { s.landed early late with sched := t.sched, lines := t.lines }) ∧
  ∀ (s : State) (e : Nat) (early late : List BusWrite), Boundary s 0 e → NoFrameEnds s 0 →
    ListsMatchStates s → LoadsMatch s → TonesFit s → s.readByte 0x100 ≠ s.control.generationTaken →
    ∃ m t, exec (.slotBoundary early late) s = .next t ∧
      Reloaded (counted (requested (clocked s 0 e) 0) (s.sched.waits.map WaitEntry.line)) early late m ∧
      WalkedTo 0 m t

/-- R110: a frame end at which a booking's frames rung reach its max frames, and one at which they do not; and
every frame end of a boundary in booking order, with the re-admission that a pending change asks for (R111),
and the stages that follow (R109), a reload's eviction with log 20's reading among them. -/
def Obligations.FrameEndCountsAndLimits : Prop :=
  (∀ (s : State) (n : LineNo) (b : Booking), s.bookingOf n = some b →
    ∀ (e : Nat) (early late : List BusWrite),
    s.sched.nextBoundary = some e → Boundary s b.rotation e → b.firstBurst = true → ListsMatchStates s →
    (0 < b.maxFrames → b.framesRung + 1 = b.maxFrames →
      ∃ t, exec (.ringEndNoAnswer n early late) s = .next t ∧
      exec (.slotBoundary early late) s = .next t ∧
      t.line n = reported s (if Busy (s.line n) then guardedLine (s.line n) .idle
        else movedLine (s.line n) .idle) (.ringEndNoAnswer b.maxFrames) ∧
      n ∉ t.sched.bookings.map Booking.line ∧ n ∉ t.sched.waits.map WaitEntry.line) ∧
    (b.maxFrames = 0 ∨ b.framesRung + 1 < b.maxFrames → b.change = none →
      b.rotation ≠ 0 ∨ s.readByte 0x100 = s.control.generationTaken →
      ∃ t, exec (.slotBoundary early late) s = .next t ∧
        { b with framesRung := if b.maxFrames = 0 then min 60 (b.framesRung + 1)
            else b.framesRung + 1 } ∈ t.sched.bookings)) ∧
  ∀ (s : State) (c : FrameSlot) (e : Nat) (early late : List BusWrite), Boundary s c e →
    ListsMatchStates s → LoadsMatch s → TonesFit s →
    ∃ x t, exec (.slotBoundary early late) s = .next t ∧
      FramesEnd c (((s.sched.bookings.filter fun b =>
        decide (b.rotation = c ∧ b.firstBurst = true)).map Booking.line)) (clocked s c e) x ∧
      BoundaryEnds c (s.sched.waits.map WaitEntry.line) early late x t

/-- R113: at a frame boundary each wait entry that was in the list is counted, and one that reaches the
wait limit leaves it, its line going to IDLE with RING END (WAIT LIMIT), whatever the state of the source; with
a running source the entries that stay are then walked (R114). -/
def Obligations.FrameBoundaryCountsWaits : Prop :=
  (∀ (s : State) (n : LineNo) (w : WaitEntry), s.waitOf n = some w →
    ∀ (e : Nat) (early late : List BusWrite),
    s.sched.nextBoundary = some e → Boundary s 0 e → ListsMatchStates s →
    (s.control.params.waitLimit ≤ w.framesWaited + 1 →
      ∃ t, exec (.ringEndWaitLimit n early late) s = .next t ∧
      exec (.slotBoundary early late) s = .next t ∧
      t.line n = reported s (movedLine (s.line n) .idle) .ringEndWaitLimit ∧
      n ∉ t.sched.bookings.map Booking.line ∧ n ∉ t.sched.waits.map WaitEntry.line) ∧
    (w.framesWaited + 1 < s.control.params.waitLimit → s.source.state ≠ .running →
      s.sched.bookings = [] → s.readByte 0x100 = s.control.generationTaken →
      ∃ t, exec (.slotBoundary early late) s = .next t ∧
        t.sched.waits = (s.sched.waits.map fun x => { x with
          framesWaited := x.framesWaited + 1
          blocking := decide (s.control.params.priorityAge ≤ x.framesWaited + 1) }).filter
            (fun x => decide (x.framesWaited < s.control.params.waitLimit)) ∧
        t.line n = s.line n)) ∧
  ∀ (s : State) (e : Nat) (early late : List BusWrite), Boundary s 0 e → NoFrameEnds s 0 →
    ListsMatchStates s → TonesFit s → s.readByte 0x100 = s.control.generationTaken →
    ∃ t, exec (.slotBoundary early late) s = .next t ∧
      WalkedTo 0 ((counted (requested (clocked s 0 e) 0) (s.sched.waits.map WaitEntry.line)).landed
        early late) t

/-- R114: the walk books the head of the wait list at the first rotation from c on at which it fits, and a
head that fits nowhere and is blocking holds every entry; and the walk over the whole list, which passes over
an entry that does not fit and is not blocking, and tries each entry against the load of those ahead of it
that were booked. -/
def Obligations.WalkServesHead : Prop :=
  (∀ (s : State) (w : WaitEntry), s.sched.waits.head? = some w →
    ∀ (e : Nat) (early late : List BusWrite), s.sched.nextBoundary = some e →
    let c := s.sched.slot + 1
    let n := w.line
    Boundary s c e → c ≠ 0 → NoFrameEnds s c → ListsMatchStates s →
    s.source.state = .running →
    (∀ d : Fin 12, FitsAt s n w.party (c + d) →
      (∀ j : Fin 12, j < d → ¬FitsAt s n w.party (c + j)) →
      ∃ t, exec (.slotBoundary early late) s = .next t ∧
        (let l := movedLine (s.line n) .ringing
        let lead := l.sup.parties[w.party].lead
        let booked := if d = 0 then { l with rel := { l.rel with
          pending := if l.rel.ringRelay = some lead then .none else .operate lead } } else l
        t.line n = { booked with rep := (reported s l (.ringBooked d.val (c + d))).rep }) ∧
        { line := n, party := w.party, rotation := c + d, mask := s.maskOf n w.party,
          load := (s.line n).sup.parties[w.party].load, framesRung := 0, maxFrames := w.maxFrames,
          firstBurst := decide (d = 0), change := none } ∈ t.sched.bookings ∧
        n ∉ t.sched.waits.map WaitEntry.line) ∧
    ((∀ j : Fin 12, ¬FitsAt s n w.party (c + j)) → w.blocking = true →
      ∃ t, exec (.slotBoundary early late) s = .next t ∧ t.sched.waits = s.sched.waits ∧
        t.sched.bookings = burstMarked s c ∧ t.line n = s.line n)) ∧
  ∀ (s : State) (c : FrameSlot) (e : Nat) (early late : List BusWrite), Boundary s c e → c ≠ 0 →
    NoFrameEnds s c → ListsMatchStates s → TonesFit s → s.source.state = .running →
    ∃ t, exec (.slotBoundary early late) s = .next t ∧
      Walked c ((requested (clocked s c e) c).landed early late) t

/-! ### The ring source -/

/-- R122, R123: a crossing in each source state: the spacing, the state and the count, the record, and the
hand-on to the Relay Driver.  In QUALIFYING the last crossing is always set (`SourceConsistent`). -/
def Obligations.CrossingQualifiesSource : Prop :=
  ∀ (us : Fin 1000) (s : State),
    let now := s.shelfTime * 4000 + us.val * 4
    let H := s.control.params.halfPeriod * 4000
    let m := s.source
    let crossed (st : SourceState) (count : Nat) (t : State) : Prop :=
      t.source = { state := st, goodCount := count, lastCrossing := some now,
                   lossDeadline := some (now + 5 * H) } ∧
        t = { s with source := t.source, lines := t.lines, sent := t.sent }
    let unmoved (t : State) : Prop := t.lines = s.lines ∧ t.sent = s.sent
    let moved (t : State) : Prop := ∀ n, t.line n = crossedLine s (s.line n) now
    (s.control.shelf = .halted → exec (.crossing us) s = .next s) ∧
    (s.control.shelf ≠ .halted →
      (m.state = .absent ∨ m.state = .failed → ∃ t, exec (.crossing us) s = .next t ∧
        crossed .qualifying 0 t ∧ unmoved t) ∧
      (m.state = .running → ∃ t, exec (.crossing us) s = .next t ∧
        crossed .running m.goodCount t ∧ moved t ∧ SettingsSent s t) ∧
      (m.state = .qualifying → ∀ last, m.lastCrossing = some last →
        let good := H ≤ 2 * (now - last) ∧ now - last ≤ 2 * H
        (¬good → ∃ t, exec (.crossing us) s = .next t ∧ crossed .qualifying 0 t ∧ unmoved t) ∧
        (good → m.goodCount < 7 → ∃ t, exec (.crossing us) s = .next t ∧
          crossed .qualifying (m.goodCount + 1) t ∧ unmoved t) ∧
        (good → m.goodCount = 7 → ∃ t, exec (.sourceQualified us) s = .next t ∧
          exec (.crossing us) s = .next t ∧ crossed .running 8 t ∧ moved t ∧ SettingsSent s t)))

/-- R124, R125, R126: the loss deadline expires: QUALIFYING lapses to ABSENT, and RUNNING fails, with every
relay released at once and every booking moved to the head of the wait list.  That the max frames of a pending
change are taken as stored, for an origin of RELOAD too, is the model's reading (log 20); that the relays are
released with an empty booking list too is its choice between R126 and R125 (log 31), and that the command
changes nothing before the deadline or without one, its choice too (log 5). -/
def Obligations.LossDeadlineFailsSource : Prop :=
  ∀ (us : Fin 1000) (s : State),
    let now := s.shelfTime * 4000 + us.val * 4
    let lost (st : SourceState) : SourceMonitor :=
      { state := st, goodCount := 0, lastCrossing := none, lossDeadline := none }
    (∀ e, s.source.lossDeadline = some e → e ≤ now →
      (s.source.state = .qualifying →
        exec (.lossDeadlineExpiry us) s = .next { s with source := lost .absent }) ∧
      (s.source.state = .running → ListsMatchStates s →
        ∃ t, exec (.lossDeadlineExpiry us) s = .next t ∧ t.source = lost .failed ∧
          t.sched = { s.sched with
            bookings := [], loads := Vector.replicate 12 0
            waits := (s.sched.bookings.map fun b => joining b.line
              (match b.change with | some c => c.party | none => b.party)
              (match b.change with | some c => c.maxFrames | none => b.maxFrames) none) ++
                s.sched.waits } ∧
          (∀ n, t.line n = if s.stateOf n = .ringing then
              reported s (movedLine (failedLine s (s.line n) now) .ringWait)
                (.ringQueued .sourceDown (waitPosition t.sched.waits n))
            else failedLine s (s.line n) now) ∧
          (RelaysOnlyRinging s → SettingsSent s t) ∧
          t = { s with source := t.source, sched := t.sched, lines := t.lines, sent := t.sent })) ∧
    (s.source.lossDeadline = none ∨ (∀ e, s.source.lossDeadline = some e → now < e) →
      exec (.lossDeadlineExpiry us) s = .next s)

/-! ### Reports -/

/-- R140, R142: an append, from the pending count it reckons: a count above 8 is a fault and is treated as
0, one of 8 drops the report, and one below 8 writes it, with the codes that Layouts give each report (R13,
R121); a kind that is not quiet sets the attention bit. -/
def Obligations.AppendWritesDropsOrFaults : Prop :=
  ∀ (k : Reckoning) (p : Params) (time : Nat) (r : Report) (after : LineState),
    let untaken := (k.written.toNat + 256 - k.taken.toNat) % 256
    let k' := k.append p time r after
    let codes := reportCodes r
    (k'.attention = true ↔ k.attention = true ∨ p.quietMask.getLsbD codes.1 = false) ∧
    k'.taken = k.taken ∧
    (untaken = 8 → k'.written = k.written ∧ k'.entries = k.entries ∧ k'.countFault = k.countFault ∧
      k'.dropped.toNat = min 255 (k.dropped.toNat + 1)) ∧
    (untaken ≠ 8 → k'.written.toNat = (k.written.toNat + 1) % 256 ∧ k'.dropped = 0 ∧
      (k'.countFault = true ↔ k.countFault = true ∨ 8 < untaken) ∧
      ∀ i : Fin 8, k'.entries[i] = if i.val = k.written.toNat % 8 then
        { kind := BitVec.ofNat 8 codes.1, detail := BitVec.ofNat 8 codes.2.1
          value := BitVec.ofNat 16 codes.2.2, time := BitVec.ofNat 16 time
          droppedBefore := k.dropped, stateAfter := BitVec.ofNat 8 (stateCode after) }
        else k.entries[i])


/-! ### What every step keeps -/

/-- R92, R93, R127, in every state that any command leads to: the slot loads are the sums of the bookings and
within the capacity, and the lists hold exactly the lines in RINGING and RING WAIT. -/
def Obligations.StepKeepsRingLists : Prop :=
  ∀ s t : State, RingListsConsistent s → step s = .next t → RingListsConsistent t

/-- R69, R103, R125, R127, R129, R135, R136: a ring relay is operated or has an action pending only in
RINGING or in RING GUARD before its guard end, and only while the source is RUNNING; tones, test relays and
guard records stand in the states they belong to; and while HALTED every line is IDLE or OUT OF SERVICE
(R18).  At a failure with an empty booking list it rests on log 31, the model's choice between R125 and R126. -/
def Obligations.StepKeepsRelays : Prop :=
  ∀ s t : State, RingListsConsistent s → RelaysConsistent s → step s = .next t → RelaysConsistent t

/-- R66, R67, R75, R78: no deadline outlives the state it belongs to, the pulse count is at most 10, and a
line in DIALING has a deadline or a digit in progress. -/
def Obligations.StepKeepsDialing : Prop :=
  ∀ s t : State, DialingConsistent s → step s = .next t → DialingConsistent t

/-- R7, R14, R17, R33, R34, R91, R122, R143: RUN, the clocks and the source follow the shelf state, every line
of an absent card is OUT OF SERVICE, and a latched line has its attention bit set.  The ring lists are
consistent (`StepKeepsRingLists`), so no line of an absent card stands in one. -/
def Obligations.StepKeepsShelf : Prop :=
  ∀ s t : State, RingListsConsistent s → ShelfConsistent s → step s = .next t → ShelfConsistent t

/-- R2, R21, R35, R43, R50, R64, R65, R87, R89: the stored bytes keep their canonical form, the working parameters every
range and ordering, and the classifiers their ranges, with a learning count below 8 in LEARNING. -/
def Obligations.StepKeepsRanges : Prop :=
  ∀ s t : State, ValuesInRange s → step s = .next t → ValuesInRange t

/-- The invariants hold after power-on, whatever the presence inputs show, and so at reset. -/
def Obligations.ResetMeetsEveryInvariant : Prop :=
  (∀ seated : Byte, RingListsConsistent (State.powerOn seated) ∧
    RelaysConsistent (State.powerOn seated) ∧ DialingConsistent (State.powerOn seated) ∧
    ShelfConsistent (State.powerOn seated) ∧ ValuesInRange (State.powerOn seated)) ∧
  RingListsConsistent State.reset ∧ RelaysConsistent State.reset ∧ DialingConsistent State.reset ∧
    ShelfConsistent State.reset ∧ ValuesInRange State.reset
end

