-- ==== Sys2Proof/Laws/Memory.lean ====
section
/-! SUPPORT. The laws of the host-owned bytes: a read after a write, and that a write keeps the canonical
form. -/

namespace Sys2Proof.Machine

/-- Every listed offset is above `a`. -/
abbrev Memory.above (a : Nat) (m : Memory) : Prop := ∀ c ∈ m, a < c.1

theorem Memory.wf_cons {a : Nat} {b : Byte} {m : Memory} :
    Memory.wf ((a, b) :: m) = true ↔ b ≠ Memory.unlisted ∧ Memory.above a m ∧ Memory.wf m = true := by
  simp [Memory.wf, and_assoc]

theorem Memory.read_of_above {a : Nat} {m : Memory} (h : Memory.above a m) :
    Memory.read m a = Memory.unlisted := by
  induction m with
  | nil => rfl
  | cons c m ih =>
    obtain ⟨x, y⟩ := c
    have hx : a < x := h (x, y) (by simp)
    have : x ≠ a := by omega
    simp only [Memory.read, this, if_false]
    exact ih fun c hc => h c (List.mem_cons_of_mem _ hc)

/-- Where a byte was written, it reads as written. -/
theorem Memory.read_write_same (m : Memory) (off : Nat) (v : Byte) (h : Memory.wf m = true) :
    Memory.read (Memory.write m off v) off = v := by
  induction m with
  | nil => by_cases hv : v = Memory.unlisted <;> simp [Memory.write, Memory.read, hv]
  | cons c m ih =>
    obtain ⟨a, b⟩ := c
    obtain ⟨-, ha, hm⟩ := Memory.wf_cons.1 h
    unfold Memory.write
    by_cases h1 : off < a
    · have hne : a ≠ off := by omega
      have hr : Memory.read m off = Memory.unlisted :=
        Memory.read_of_above fun c hc => lt_trans h1 (ha c hc)
      by_cases hv : v = Memory.unlisted
      · simp [h1, hv, Memory.read, hne, hr]
      · simp [h1, hv, Memory.read]
    · by_cases h2 : off = a
      · subst h2
        by_cases hv : v = Memory.unlisted
        · simp [hv, Memory.read_of_above ha]
        · simp [hv, Memory.read]
      · have hne : a ≠ off := fun e => h2 e.symm
        simp [h1, h2, Memory.read, hne, ih hm]

/-- A write leaves every other byte as it reads. -/
theorem Memory.read_write_other (m : Memory) (off x : Nat) (v : Byte) (hx : x ≠ off) :
    Memory.read (Memory.write m off v) x = Memory.read m x := by
  have hx' : off ≠ x := fun e => hx e.symm
  induction m with
  | nil => by_cases hv : v = Memory.unlisted <;> simp [Memory.write, Memory.read, hv, hx']
  | cons c m ih =>
    obtain ⟨a, b⟩ := c
    unfold Memory.write
    by_cases h1 : off < a
    · by_cases hv : v = Memory.unlisted <;> simp [h1, hv, Memory.read, hx']
    · by_cases h2 : off = a
      · subst h2
        by_cases hv : v = Memory.unlisted <;> simp [hv, Memory.read, hx']
      · simp [h1, h2, Memory.read, ih]

theorem Memory.above_write {k : Nat} {m : Memory} {off : Nat} {v : Byte} (h : Memory.above k m)
    (hk : k < off) : Memory.above k (Memory.write m off v) := by
  induction m with
  | nil =>
    intro c hc
    by_cases hv : v = Memory.unlisted
    · simp [Memory.write, hv] at hc
    · simp only [Memory.write, hv, if_false, List.mem_singleton] at hc
      exact hc ▸ hk
  | cons x m ih =>
    obtain ⟨a, b⟩ := x
    have ha : k < a := h (a, b) (by simp)
    have hm : Memory.above k m := fun c hc => h c (List.mem_cons_of_mem _ hc)
    have ih' := ih hm
    unfold Memory.write
    intro c hc
    by_cases h1 : off < a
    · by_cases hv : v = Memory.unlisted
      · simp only [h1, hv, if_true] at hc
        exact h c hc
      · simp only [h1, hv, if_true, if_false] at hc
        rcases List.mem_cons.1 hc with rfl | hc
        · exact hk
        · exact h c hc
    · by_cases h2 : off = a
      · by_cases hv : v = Memory.unlisted
        · simp only [h2, hv, if_true, lt_irrefl, if_false] at hc
          exact hm c hc
        · simp only [h2, hv, if_true, lt_irrefl, if_false] at hc
          rcases List.mem_cons.1 hc with rfl | hc
          · exact ha
          · exact hm c hc
      · simp only [h1, h2, if_false] at hc
        rcases List.mem_cons.1 hc with rfl | hc
        · exact ha
        · exact ih' c hc

/-- A write keeps the canonical form. -/
theorem Memory.write_wf {m : Memory} (off : Nat) (v : Byte) (h : Memory.wf m = true) :
    Memory.wf (Memory.write m off v) = true := by
  induction m with
  | nil =>
    by_cases hv : v = Memory.unlisted
    · simp [Memory.write, hv, Memory.wf]
    · simp only [Memory.write, hv, if_false]
      exact Memory.wf_cons.2 ⟨hv, fun c hc => by simp at hc, rfl⟩
  | cons x m ih =>
    obtain ⟨a, b⟩ := x
    obtain ⟨hb, ha, hm⟩ := Memory.wf_cons.1 h
    unfold Memory.write
    by_cases h1 : off < a
    · by_cases hv : v = Memory.unlisted
      · simpa [h1, hv] using h
      · simp only [h1, hv, if_true, if_false]
        refine Memory.wf_cons.2 ⟨hv, fun c hc => ?_, h⟩
        rcases List.mem_cons.1 hc with rfl | hc
        · exact h1
        · exact lt_trans h1 (ha c hc)
    · by_cases h2 : off = a
      · by_cases hv : v = Memory.unlisted
        · simpa [h2, hv] using hm
        · simp only [h2, hv, if_true, lt_irrefl, if_false]
          exact Memory.wf_cons.2 ⟨hv, ha, hm⟩
      · simp only [h1, h2, if_false]
        exact Memory.wf_cons.2 ⟨hb, Memory.above_write ha (by omega), ih hm⟩

/-- A bus write keeps the canonical form. -/
theorem State.writeWorkMemory_wf {s : State} (w : BusWrite) (h : Memory.wf s.port.mem = true) :
    Memory.wf (s.writeWorkMemory w).port.mem = true := by
  unfold State.writeWorkMemory
  split
  · exact h
  · split
    · cases w.low <;> cases w.high <;> simp [h, Memory.write_wf]
    · exact h

/-- Power-on leaves the memory in canonical form, whatever the presence inputs show. -/
theorem State.powerOn_wf (seated : Byte) : Memory.wf (State.powerOn seated).port.mem = true := rfl

/-- The memory at reset is in canonical form. -/
theorem State.reset_wf : Memory.wf State.reset.port.mem = true := rfl

/-- What a bus write changes: the host-owned bytes and *write discarded*, and nothing else. -/
theorem State.writeWorkMemory_eq (s : State) (w : BusWrite) :
    ∃ m d, s.writeWorkMemory w = { s with port := { s.port with mem := m, writeDiscarded := d } } := by
  unfold State.writeWorkMemory
  split
  · exact ⟨_, _, rfl⟩
  · split
    · exact ⟨_, _, rfl⟩
    · exact ⟨_, _, rfl⟩

/-! ### Writes that meet an operation (R3, R20) -/

@[simp] theorem State.writes_nil (s : State) : s.writes [] = s := rfl

@[simp] theorem State.writes_cons (s : State) (w : BusWrite) (ws : List BusWrite) :
    s.writes (w :: ws) = (s.writeWorkMemory w).writes ws := rfl

/-- Writes change the host-owned bytes and *write discarded*, and nothing else. -/
theorem State.writes_eq (s : State) (ws : List BusWrite) :
    ∃ m d, s.writes ws = { s with port := { s.port with mem := m, writeDiscarded := d } } := by
  induction ws generalizing s with
  | nil => exact ⟨_, _, rfl⟩
  | cons w ws ih =>
    obtain ⟨m, d, h⟩ := s.writeWorkMemory_eq w
    obtain ⟨m', d', h'⟩ := ih (s.writeWorkMemory w)
    exact ⟨m', d', by rw [State.writes_cons, h', h]⟩

/-- Writes keep the canonical form. -/
theorem State.writes_wf {s : State} (ws : List BusWrite) (h : Memory.wf s.port.mem = true) :
    Memory.wf (s.writes ws).port.mem = true := by
  induction ws generalizing s with
  | nil => exact h
  | cons w ws ih => exact ih (s.writeWorkMemory_wf w h)

/-- Writes that meet nothing are one list of writes. -/
theorem State.landed_eq (s : State) (early late : List BusWrite) :
    s.landed early late = s.writes (early ++ late) :=
  List.foldl_append.symm

@[simp] theorem State.landed_nil (s : State) : s.landed [] [] = s := rfl

/-- Writes that meet nothing keep the canonical form. -/
theorem State.landed_wf {s : State} (early late : List BusWrite) (h : Memory.wf s.port.mem = true) :
    Memory.wf (s.landed early late).port.mem = true :=
  State.writes_wf late (State.writes_wf early h)

@[simp] theorem State.writes_control (s : State) (ws : List BusWrite) :
    (s.writes ws).control = s.control := by
  obtain ⟨m, d, h⟩ := s.writes_eq ws
  rw [h]

@[simp] theorem State.writes_visitPointer (s : State) (ws : List BusWrite) :
    (s.writes ws).visitPointer = s.visitPointer := by
  obtain ⟨m, d, h⟩ := s.writes_eq ws
  rw [h]

@[simp] theorem State.writes_slots (s : State) (ws : List BusWrite) :
    (s.writes ws).slots = s.slots := by
  obtain ⟨m, d, h⟩ := s.writes_eq ws
  rw [h]

@[simp] theorem State.writes_lines (s : State) (ws : List BusWrite) :
    (s.writes ws).lines = s.lines := by
  obtain ⟨m, d, h⟩ := s.writes_eq ws
  rw [h]

@[simp] theorem State.writes_sched (s : State) (ws : List BusWrite) :
    (s.writes ws).sched = s.sched := by
  obtain ⟨m, d, h⟩ := s.writes_eq ws
  rw [h]

@[simp] theorem State.writes_source (s : State) (ws : List BusWrite) :
    (s.writes ws).source = s.source := by
  obtain ⟨m, d, h⟩ := s.writes_eq ws
  rw [h]

@[simp] theorem State.writes_latch (s : State) (ws : List BusWrite) :
    (s.writes ws).latch = s.latch := by
  obtain ⟨m, d, h⟩ := s.writes_eq ws
  rw [h]

@[simp] theorem State.writes_sent (s : State) (ws : List BusWrite) :
    (s.writes ws).sent = s.sent := by
  obtain ⟨m, d, h⟩ := s.writes_eq ws
  rw [h]

@[simp] theorem State.writes_shelfTime (s : State) (ws : List BusWrite) :
    (s.writes ws).shelfTime = s.shelfTime := by
  obtain ⟨m, d, h⟩ := s.writes_eq ws
  rw [h]

@[simp] theorem State.writes_pending (s : State) (ws : List BusWrite) :
    (s.writes ws).pending = s.pending := by
  obtain ⟨m, d, h⟩ := s.writes_eq ws
  rw [h]

@[simp] theorem State.writes_port_run (s : State) (ws : List BusWrite) :
    (s.writes ws).port.run = s.port.run := by
  obtain ⟨m, d, h⟩ := s.writes_eq ws
  rw [h]

@[simp] theorem State.writes_port_interruptEnable (s : State) (ws : List BusWrite) :
    (s.writes ws).port.interruptEnable = s.port.interruptEnable := by
  obtain ⟨m, d, h⟩ := s.writes_eq ws
  rw [h]

@[simp] theorem State.writes_port_parametersAdjusted (s : State) (ws : List BusWrite) :
    (s.writes ws).port.parametersAdjusted = s.port.parametersAdjusted := by
  obtain ⟨m, d, h⟩ := s.writes_eq ws
  rw [h]

@[simp] theorem State.writes_port_readData (s : State) (ws : List BusWrite) :
    (s.writes ws).port.readData = s.port.readData := by
  obtain ⟨m, d, h⟩ := s.writes_eq ws
  rw [h]

@[simp] theorem State.writes_line (s : State) (ws : List BusWrite) (n : LineNo) :
    (s.writes ws).line n = s.line n := by
  simp [State.line]

end Sys2Proof.Machine
end

