-- ==== Sys2Proof/Laws/State.lean ====
section
/-! SUPPORT. What each update of the state leaves in each field, so that no proof unfolds a record
update: one lemma per field per shared operation, true by `rfl`, and the reading of a line through them. -/

namespace Sys2Proof.Machine

/-! ### updLine -/

@[simp] theorem State.updLine_port (s : State) (n : LineNo) (f : Line → Line) :
    (s.updLine n f).port = s.port := rfl

@[simp] theorem State.updLine_control (s : State) (n : LineNo) (f : Line → Line) :
    (s.updLine n f).control = s.control := rfl

@[simp] theorem State.updLine_visitPointer (s : State) (n : LineNo) (f : Line → Line) :
    (s.updLine n f).visitPointer = s.visitPointer := rfl

@[simp] theorem State.updLine_slots (s : State) (n : LineNo) (f : Line → Line) :
    (s.updLine n f).slots = s.slots := rfl

theorem State.updLine_lines (s : State) (n : LineNo) (f : Line → Line) :
    (s.updLine n f).lines = s.lines.set n (f (s.line n)) := rfl

@[simp] theorem State.updLine_sched (s : State) (n : LineNo) (f : Line → Line) :
    (s.updLine n f).sched = s.sched := rfl

@[simp] theorem State.updLine_source (s : State) (n : LineNo) (f : Line → Line) :
    (s.updLine n f).source = s.source := rfl

@[simp] theorem State.updLine_latch (s : State) (n : LineNo) (f : Line → Line) :
    (s.updLine n f).latch = s.latch := rfl

theorem State.updLine_sent (s : State) (n : LineNo) (f : Line → Line) :
    (s.updLine n f).sent = relayWords (s.cardPresent n) n (s.line n) (f (s.line n)) ++ s.sent := rfl

@[simp] theorem State.updLine_shelfTime (s : State) (n : LineNo) (f : Line → Line) :
    (s.updLine n f).shelfTime = s.shelfTime := rfl

@[simp] theorem State.updLine_pending (s : State) (n : LineNo) (f : Line → Line) :
    (s.updLine n f).pending = s.pending := rfl

@[simp] theorem State.updLine_cardPresent (s : State) (n : LineNo) (f : Line → Line) (m : LineNo) :
    (s.updLine n f).cardPresent m = s.cardPresent m := rfl

/-! ### mapLines -/

@[simp] theorem State.mapLines_port (s : State) (g : LineNo → Line → Line) :
    (s.mapLines g).port = s.port := by
  simp only [State.mapLines]

@[simp] theorem State.mapLines_control (s : State) (g : LineNo → Line → Line) :
    (s.mapLines g).control = s.control := by
  simp only [State.mapLines]

@[simp] theorem State.mapLines_visitPointer (s : State) (g : LineNo → Line → Line) :
    (s.mapLines g).visitPointer = s.visitPointer := by
  simp only [State.mapLines]

@[simp] theorem State.mapLines_slots (s : State) (g : LineNo → Line → Line) :
    (s.mapLines g).slots = s.slots := by
  simp only [State.mapLines]

theorem State.mapLines_lines (s : State) (g : LineNo → Line → Line) :
    (s.mapLines g).lines = Vector.ofFn fun n => g n (s.line n) := by
  simp only [State.mapLines]

@[simp] theorem State.mapLines_sched (s : State) (g : LineNo → Line → Line) :
    (s.mapLines g).sched = s.sched := by
  simp only [State.mapLines]

@[simp] theorem State.mapLines_source (s : State) (g : LineNo → Line → Line) :
    (s.mapLines g).source = s.source := by
  simp only [State.mapLines]

@[simp] theorem State.mapLines_latch (s : State) (g : LineNo → Line → Line) :
    (s.mapLines g).latch = s.latch := by
  simp only [State.mapLines]

@[simp] theorem State.mapLines_shelfTime (s : State) (g : LineNo → Line → Line) :
    (s.mapLines g).shelfTime = s.shelfTime := by
  simp only [State.mapLines]

@[simp] theorem State.mapLines_pending (s : State) (g : LineNo → Line → Line) :
    (s.mapLines g).pending = s.pending := by
  simp only [State.mapLines]

@[simp] theorem State.mapLines_cardPresent (s : State) (g : LineNo → Line → Line) (m : LineNo) :
    (s.mapLines g).cardPresent m = s.cardPresent m := by
  unfold State.cardPresent; rw [State.mapLines_slots]

/-! ### report -/

@[simp] theorem State.report_port (s : State) (n : LineNo) (r : Report) :
    (s.report n r).port = s.port := rfl

@[simp] theorem State.report_control (s : State) (n : LineNo) (r : Report) :
    (s.report n r).control = s.control := rfl

@[simp] theorem State.report_visitPointer (s : State) (n : LineNo) (r : Report) :
    (s.report n r).visitPointer = s.visitPointer := rfl

@[simp] theorem State.report_slots (s : State) (n : LineNo) (r : Report) :
    (s.report n r).slots = s.slots := rfl

@[simp] theorem State.report_sched (s : State) (n : LineNo) (r : Report) :
    (s.report n r).sched = s.sched := rfl

@[simp] theorem State.report_source (s : State) (n : LineNo) (r : Report) :
    (s.report n r).source = s.source := rfl

@[simp] theorem State.report_latch (s : State) (n : LineNo) (r : Report) :
    (s.report n r).latch = s.latch := rfl

@[simp] theorem State.report_shelfTime (s : State) (n : LineNo) (r : Report) :
    (s.report n r).shelfTime = s.shelfTime := rfl

@[simp] theorem State.report_pending (s : State) (n : LineNo) (r : Report) :
    (s.report n r).pending = s.pending := rfl

@[simp] theorem State.report_cardPresent (s : State) (n : LineNo) (r : Report) (m : LineNo) :
    (s.report n r).cardPresent m = s.cardPresent m := rfl

/-! ### addBooking -/

@[simp] theorem State.addBooking_port (s : State) (b : Booking) :
    (s.addBooking b).port = s.port := rfl

@[simp] theorem State.addBooking_control (s : State) (b : Booking) :
    (s.addBooking b).control = s.control := rfl

@[simp] theorem State.addBooking_visitPointer (s : State) (b : Booking) :
    (s.addBooking b).visitPointer = s.visitPointer := rfl

@[simp] theorem State.addBooking_slots (s : State) (b : Booking) :
    (s.addBooking b).slots = s.slots := rfl

@[simp] theorem State.addBooking_lines (s : State) (b : Booking) :
    (s.addBooking b).lines = s.lines := rfl

@[simp] theorem State.addBooking_sched_slot (s : State) (b : Booking) :
    (s.addBooking b).sched.slot = s.sched.slot := rfl

@[simp] theorem State.addBooking_sched_nextBoundary (s : State) (b : Booking) :
    (s.addBooking b).sched.nextBoundary = s.sched.nextBoundary := rfl

@[simp] theorem State.addBooking_sched_loads (s : State) (b : Booking) :
    (s.addBooking b).sched.loads = addLoad s.sched.loads b := rfl

@[simp] theorem State.addBooking_sched_bookings (s : State) (b : Booking) :
    (s.addBooking b).sched.bookings = s.sched.bookings ++ [b] := rfl

@[simp] theorem State.addBooking_sched_waits (s : State) (b : Booking) :
    (s.addBooking b).sched.waits = s.sched.waits := rfl

@[simp] theorem State.addBooking_source (s : State) (b : Booking) :
    (s.addBooking b).source = s.source := rfl

@[simp] theorem State.addBooking_latch (s : State) (b : Booking) :
    (s.addBooking b).latch = s.latch := rfl

@[simp] theorem State.addBooking_sent (s : State) (b : Booking) :
    (s.addBooking b).sent = s.sent := rfl

@[simp] theorem State.addBooking_shelfTime (s : State) (b : Booking) :
    (s.addBooking b).shelfTime = s.shelfTime := rfl

@[simp] theorem State.addBooking_pending (s : State) (b : Booking) :
    (s.addBooking b).pending = s.pending := rfl

@[simp] theorem State.addBooking_line (s : State) (b : Booking) (m : LineNo) :
    (s.addBooking b).line m = s.line m := rfl

@[simp] theorem State.addBooking_cardPresent (s : State) (b : Booking) (m : LineNo) :
    (s.addBooking b).cardPresent m = s.cardPresent m := rfl

/-! ### dropBookings -/

@[simp] theorem State.dropBookings_port (s : State) (p : LineNo → Bool) :
    (s.dropBookings p).port = s.port := rfl

@[simp] theorem State.dropBookings_control (s : State) (p : LineNo → Bool) :
    (s.dropBookings p).control = s.control := rfl

@[simp] theorem State.dropBookings_visitPointer (s : State) (p : LineNo → Bool) :
    (s.dropBookings p).visitPointer = s.visitPointer := rfl

@[simp] theorem State.dropBookings_slots (s : State) (p : LineNo → Bool) :
    (s.dropBookings p).slots = s.slots := rfl

@[simp] theorem State.dropBookings_lines (s : State) (p : LineNo → Bool) :
    (s.dropBookings p).lines = s.lines := rfl

@[simp] theorem State.dropBookings_sched_slot (s : State) (p : LineNo → Bool) :
    (s.dropBookings p).sched.slot = s.sched.slot := rfl

@[simp] theorem State.dropBookings_sched_nextBoundary (s : State) (p : LineNo → Bool) :
    (s.dropBookings p).sched.nextBoundary = s.sched.nextBoundary := rfl

@[simp] theorem State.dropBookings_sched_loads (s : State) (p : LineNo → Bool) :
    (s.dropBookings p).sched.loads = (s.sched.bookings.filter fun b => p b.line).foldl subLoad s.sched.loads := rfl

@[simp] theorem State.dropBookings_sched_bookings (s : State) (p : LineNo → Bool) :
    (s.dropBookings p).sched.bookings = s.sched.bookings.filter fun b => !p b.line := rfl

@[simp] theorem State.dropBookings_sched_waits (s : State) (p : LineNo → Bool) :
    (s.dropBookings p).sched.waits = s.sched.waits := rfl

@[simp] theorem State.dropBookings_source (s : State) (p : LineNo → Bool) :
    (s.dropBookings p).source = s.source := rfl

@[simp] theorem State.dropBookings_latch (s : State) (p : LineNo → Bool) :
    (s.dropBookings p).latch = s.latch := rfl

@[simp] theorem State.dropBookings_sent (s : State) (p : LineNo → Bool) :
    (s.dropBookings p).sent = s.sent := rfl

@[simp] theorem State.dropBookings_shelfTime (s : State) (p : LineNo → Bool) :
    (s.dropBookings p).shelfTime = s.shelfTime := rfl

@[simp] theorem State.dropBookings_pending (s : State) (p : LineNo → Bool) :
    (s.dropBookings p).pending = s.pending := rfl

@[simp] theorem State.dropBookings_line (s : State) (p : LineNo → Bool) (m : LineNo) :
    (s.dropBookings p).line m = s.line m := rfl

@[simp] theorem State.dropBookings_cardPresent (s : State) (p : LineNo → Bool) (m : LineNo) :
    (s.dropBookings p).cardPresent m = s.cardPresent m := rfl

/-! ### dropWaits -/

@[simp] theorem State.dropWaits_port (s : State) (p : LineNo → Bool) :
    (s.dropWaits p).port = s.port := rfl

@[simp] theorem State.dropWaits_control (s : State) (p : LineNo → Bool) :
    (s.dropWaits p).control = s.control := rfl

@[simp] theorem State.dropWaits_visitPointer (s : State) (p : LineNo → Bool) :
    (s.dropWaits p).visitPointer = s.visitPointer := rfl

@[simp] theorem State.dropWaits_slots (s : State) (p : LineNo → Bool) :
    (s.dropWaits p).slots = s.slots := rfl

@[simp] theorem State.dropWaits_lines (s : State) (p : LineNo → Bool) :
    (s.dropWaits p).lines = s.lines := rfl

@[simp] theorem State.dropWaits_sched_slot (s : State) (p : LineNo → Bool) :
    (s.dropWaits p).sched.slot = s.sched.slot := rfl

@[simp] theorem State.dropWaits_sched_nextBoundary (s : State) (p : LineNo → Bool) :
    (s.dropWaits p).sched.nextBoundary = s.sched.nextBoundary := rfl

@[simp] theorem State.dropWaits_sched_loads (s : State) (p : LineNo → Bool) :
    (s.dropWaits p).sched.loads = s.sched.loads := rfl

@[simp] theorem State.dropWaits_sched_bookings (s : State) (p : LineNo → Bool) :
    (s.dropWaits p).sched.bookings = s.sched.bookings := rfl

@[simp] theorem State.dropWaits_sched_waits (s : State) (p : LineNo → Bool) :
    (s.dropWaits p).sched.waits = s.sched.waits.filter fun e => !p e.line := rfl

@[simp] theorem State.dropWaits_source (s : State) (p : LineNo → Bool) :
    (s.dropWaits p).source = s.source := rfl

@[simp] theorem State.dropWaits_latch (s : State) (p : LineNo → Bool) :
    (s.dropWaits p).latch = s.latch := rfl

@[simp] theorem State.dropWaits_sent (s : State) (p : LineNo → Bool) :
    (s.dropWaits p).sent = s.sent := rfl

@[simp] theorem State.dropWaits_shelfTime (s : State) (p : LineNo → Bool) :
    (s.dropWaits p).shelfTime = s.shelfTime := rfl

@[simp] theorem State.dropWaits_pending (s : State) (p : LineNo → Bool) :
    (s.dropWaits p).pending = s.pending := rfl

@[simp] theorem State.dropWaits_line (s : State) (p : LineNo → Bool) (m : LineNo) :
    (s.dropWaits p).line m = s.line m := rfl

@[simp] theorem State.dropWaits_cardPresent (s : State) (p : LineNo → Bool) (m : LineNo) :
    (s.dropWaits p).cardPresent m = s.cardPresent m := rfl

/-! ### updBooking -/

@[simp] theorem State.updBooking_port (s : State) (n : LineNo) (f : Booking → Booking) :
    (s.updBooking n f).port = s.port := rfl

@[simp] theorem State.updBooking_control (s : State) (n : LineNo) (f : Booking → Booking) :
    (s.updBooking n f).control = s.control := rfl

@[simp] theorem State.updBooking_visitPointer (s : State) (n : LineNo) (f : Booking → Booking) :
    (s.updBooking n f).visitPointer = s.visitPointer := rfl

@[simp] theorem State.updBooking_slots (s : State) (n : LineNo) (f : Booking → Booking) :
    (s.updBooking n f).slots = s.slots := rfl

@[simp] theorem State.updBooking_lines (s : State) (n : LineNo) (f : Booking → Booking) :
    (s.updBooking n f).lines = s.lines := rfl

@[simp] theorem State.updBooking_sched_slot (s : State) (n : LineNo) (f : Booking → Booking) :
    (s.updBooking n f).sched.slot = s.sched.slot := rfl

@[simp] theorem State.updBooking_sched_nextBoundary (s : State) (n : LineNo) (f : Booking → Booking) :
    (s.updBooking n f).sched.nextBoundary = s.sched.nextBoundary := rfl

@[simp] theorem State.updBooking_sched_loads (s : State) (n : LineNo) (f : Booking → Booking) :
    (s.updBooking n f).sched.loads = s.sched.loads := rfl

@[simp] theorem State.updBooking_sched_bookings (s : State) (n : LineNo) (f : Booking → Booking) :
    (s.updBooking n f).sched.bookings = s.sched.bookings.map fun b => if b.line = n then f b else b := rfl

@[simp] theorem State.updBooking_sched_waits (s : State) (n : LineNo) (f : Booking → Booking) :
    (s.updBooking n f).sched.waits = s.sched.waits := rfl

@[simp] theorem State.updBooking_source (s : State) (n : LineNo) (f : Booking → Booking) :
    (s.updBooking n f).source = s.source := rfl

@[simp] theorem State.updBooking_latch (s : State) (n : LineNo) (f : Booking → Booking) :
    (s.updBooking n f).latch = s.latch := rfl

@[simp] theorem State.updBooking_sent (s : State) (n : LineNo) (f : Booking → Booking) :
    (s.updBooking n f).sent = s.sent := rfl

@[simp] theorem State.updBooking_shelfTime (s : State) (n : LineNo) (f : Booking → Booking) :
    (s.updBooking n f).shelfTime = s.shelfTime := rfl

@[simp] theorem State.updBooking_pending (s : State) (n : LineNo) (f : Booking → Booking) :
    (s.updBooking n f).pending = s.pending := rfl

@[simp] theorem State.updBooking_line (s : State) (n : LineNo) (f : Booking → Booking) (m : LineNo) :
    (s.updBooking n f).line m = s.line m := rfl

@[simp] theorem State.updBooking_cardPresent (s : State) (n : LineNo) (f : Booking → Booking) (m : LineNo) :
    (s.updBooking n f).cardPresent m = s.cardPresent m := rfl

/-! ### joinTail -/

@[simp] theorem State.joinTail_port (s : State) (e : WaitEntry) :
    (s.joinTail e).port = s.port := rfl

@[simp] theorem State.joinTail_control (s : State) (e : WaitEntry) :
    (s.joinTail e).control = s.control := rfl

@[simp] theorem State.joinTail_visitPointer (s : State) (e : WaitEntry) :
    (s.joinTail e).visitPointer = s.visitPointer := rfl

@[simp] theorem State.joinTail_slots (s : State) (e : WaitEntry) :
    (s.joinTail e).slots = s.slots := rfl

@[simp] theorem State.joinTail_lines (s : State) (e : WaitEntry) :
    (s.joinTail e).lines = s.lines := rfl

@[simp] theorem State.joinTail_sched_slot (s : State) (e : WaitEntry) :
    (s.joinTail e).sched.slot = s.sched.slot := rfl

@[simp] theorem State.joinTail_sched_nextBoundary (s : State) (e : WaitEntry) :
    (s.joinTail e).sched.nextBoundary = s.sched.nextBoundary := rfl

@[simp] theorem State.joinTail_sched_loads (s : State) (e : WaitEntry) :
    (s.joinTail e).sched.loads = s.sched.loads := rfl

@[simp] theorem State.joinTail_sched_bookings (s : State) (e : WaitEntry) :
    (s.joinTail e).sched.bookings = s.sched.bookings := rfl

@[simp] theorem State.joinTail_sched_waits (s : State) (e : WaitEntry) :
    (s.joinTail e).sched.waits = s.sched.waits ++ [e] := rfl

@[simp] theorem State.joinTail_source (s : State) (e : WaitEntry) :
    (s.joinTail e).source = s.source := rfl

@[simp] theorem State.joinTail_latch (s : State) (e : WaitEntry) :
    (s.joinTail e).latch = s.latch := rfl

@[simp] theorem State.joinTail_sent (s : State) (e : WaitEntry) :
    (s.joinTail e).sent = s.sent := rfl

@[simp] theorem State.joinTail_shelfTime (s : State) (e : WaitEntry) :
    (s.joinTail e).shelfTime = s.shelfTime := rfl

@[simp] theorem State.joinTail_pending (s : State) (e : WaitEntry) :
    (s.joinTail e).pending = s.pending := rfl

@[simp] theorem State.joinTail_line (s : State) (e : WaitEntry) (m : LineNo) :
    (s.joinTail e).line m = s.line m := rfl

@[simp] theorem State.joinTail_cardPresent (s : State) (e : WaitEntry) (m : LineNo) :
    (s.joinTail e).cardPresent m = s.cardPresent m := rfl

/-! ### joinEvicted -/

@[simp] theorem State.joinEvicted_port (s : State) (e : WaitEntry) (mark : EvictionMark) :
    (s.joinEvicted e mark).port = s.port := rfl

@[simp] theorem State.joinEvicted_control (s : State) (e : WaitEntry) (mark : EvictionMark) :
    (s.joinEvicted e mark).control = s.control := rfl

@[simp] theorem State.joinEvicted_visitPointer (s : State) (e : WaitEntry) (mark : EvictionMark) :
    (s.joinEvicted e mark).visitPointer = s.visitPointer := rfl

@[simp] theorem State.joinEvicted_slots (s : State) (e : WaitEntry) (mark : EvictionMark) :
    (s.joinEvicted e mark).slots = s.slots := rfl

@[simp] theorem State.joinEvicted_lines (s : State) (e : WaitEntry) (mark : EvictionMark) :
    (s.joinEvicted e mark).lines = s.lines := rfl

@[simp] theorem State.joinEvicted_sched_slot (s : State) (e : WaitEntry) (mark : EvictionMark) :
    (s.joinEvicted e mark).sched.slot = s.sched.slot := rfl

@[simp] theorem State.joinEvicted_sched_nextBoundary (s : State) (e : WaitEntry) (mark : EvictionMark) :
    (s.joinEvicted e mark).sched.nextBoundary = s.sched.nextBoundary := rfl

@[simp] theorem State.joinEvicted_sched_loads (s : State) (e : WaitEntry) (mark : EvictionMark) :
    (s.joinEvicted e mark).sched.loads = s.sched.loads := rfl

@[simp] theorem State.joinEvicted_sched_bookings (s : State) (e : WaitEntry) (mark : EvictionMark) :
    (s.joinEvicted e mark).sched.bookings = s.sched.bookings := rfl

@[simp] theorem State.joinEvicted_sched_waits (s : State) (e : WaitEntry) (mark : EvictionMark) :
    (s.joinEvicted e mark).sched.waits = (insertBehindLast mark.behind e s.sched.waits).getD (e :: s.sched.waits) := rfl

@[simp] theorem State.joinEvicted_source (s : State) (e : WaitEntry) (mark : EvictionMark) :
    (s.joinEvicted e mark).source = s.source := rfl

@[simp] theorem State.joinEvicted_latch (s : State) (e : WaitEntry) (mark : EvictionMark) :
    (s.joinEvicted e mark).latch = s.latch := rfl

@[simp] theorem State.joinEvicted_sent (s : State) (e : WaitEntry) (mark : EvictionMark) :
    (s.joinEvicted e mark).sent = s.sent := rfl

@[simp] theorem State.joinEvicted_shelfTime (s : State) (e : WaitEntry) (mark : EvictionMark) :
    (s.joinEvicted e mark).shelfTime = s.shelfTime := rfl

@[simp] theorem State.joinEvicted_pending (s : State) (e : WaitEntry) (mark : EvictionMark) :
    (s.joinEvicted e mark).pending = s.pending := rfl

@[simp] theorem State.joinEvicted_line (s : State) (e : WaitEntry) (mark : EvictionMark) (m : LineNo) :
    (s.joinEvicted e mark).line m = s.line m := rfl

@[simp] theorem State.joinEvicted_cardPresent (s : State) (e : WaitEntry) (mark : EvictionMark) (m : LineNo) :
    (s.joinEvicted e mark).cardPresent m = s.cardPresent m := rfl

/-! ### updSlot -/

@[simp] theorem State.updSlot_port (s : State) (c : CardNo) (f : CardSlot → CardSlot) :
    (s.updSlot c f).port = s.port := rfl

@[simp] theorem State.updSlot_control (s : State) (c : CardNo) (f : CardSlot → CardSlot) :
    (s.updSlot c f).control = s.control := rfl

@[simp] theorem State.updSlot_visitPointer (s : State) (c : CardNo) (f : CardSlot → CardSlot) :
    (s.updSlot c f).visitPointer = s.visitPointer := rfl

@[simp] theorem State.updSlot_lines (s : State) (c : CardNo) (f : CardSlot → CardSlot) :
    (s.updSlot c f).lines = s.lines := rfl

@[simp] theorem State.updSlot_sched (s : State) (c : CardNo) (f : CardSlot → CardSlot) :
    (s.updSlot c f).sched = s.sched := rfl

@[simp] theorem State.updSlot_source (s : State) (c : CardNo) (f : CardSlot → CardSlot) :
    (s.updSlot c f).source = s.source := rfl

@[simp] theorem State.updSlot_latch (s : State) (c : CardNo) (f : CardSlot → CardSlot) :
    (s.updSlot c f).latch = s.latch := rfl

@[simp] theorem State.updSlot_sent (s : State) (c : CardNo) (f : CardSlot → CardSlot) :
    (s.updSlot c f).sent = s.sent := rfl

@[simp] theorem State.updSlot_shelfTime (s : State) (c : CardNo) (f : CardSlot → CardSlot) :
    (s.updSlot c f).shelfTime = s.shelfTime := rfl

@[simp] theorem State.updSlot_pending (s : State) (c : CardNo) (f : CardSlot → CardSlot) :
    (s.updSlot c f).pending = s.pending := rfl

@[simp] theorem State.updSlot_line (s : State) (c : CardNo) (f : CardSlot → CardSlot) (m : LineNo) :
    (s.updSlot c f).line m = s.line m := rfl

/-! ### loadParams -/

@[simp] theorem State.loadParams_visitPointer (s : State) :
    (s.loadParams).visitPointer = s.visitPointer := rfl

@[simp] theorem State.loadParams_slots (s : State) :
    (s.loadParams).slots = s.slots := rfl

@[simp] theorem State.loadParams_lines (s : State) :
    (s.loadParams).lines = s.lines := rfl

@[simp] theorem State.loadParams_sched_slot (s : State) :
    (s.loadParams).sched.slot = s.sched.slot := rfl

@[simp] theorem State.loadParams_sched_nextBoundary (s : State) :
    (s.loadParams).sched.nextBoundary = s.sched.nextBoundary := rfl

@[simp] theorem State.loadParams_sched_loads (s : State) :
    (s.loadParams).sched.loads = s.sched.loads := rfl

@[simp] theorem State.loadParams_sched_bookings (s : State) :
    (s.loadParams).sched.bookings = s.sched.bookings := rfl

@[simp] theorem State.loadParams_sched_waits (s : State) :
    (s.loadParams).sched.waits = s.sched.waits.map fun e => e.judged s.loadedParams.priorityAge := rfl

@[simp] theorem State.loadParams_source (s : State) :
    (s.loadParams).source = s.source := rfl

@[simp] theorem State.loadParams_latch (s : State) :
    (s.loadParams).latch = s.latch := rfl

@[simp] theorem State.loadParams_sent (s : State) :
    (s.loadParams).sent = s.sent := rfl

@[simp] theorem State.loadParams_shelfTime (s : State) :
    (s.loadParams).shelfTime = s.shelfTime := rfl

@[simp] theorem State.loadParams_pending (s : State) :
    (s.loadParams).pending = s.pending := rfl

@[simp] theorem State.loadParams_line (s : State) (m : LineNo) :
    (s.loadParams).line m = s.line m := rfl

@[simp] theorem State.loadParams_cardPresent (s : State) (m : LineNo) :
    (s.loadParams).cardPresent m = s.cardPresent m := rfl
/-! ### A line's own updates -/

@[simp] theorem Line.append_sampleIndex (l : Line) (p : Params) (t : Nat) (r : Report) (a : LineState) :
    (l.append p t r a).sampleIndex = l.sampleIndex := rfl

@[simp] theorem Line.append_takenSeq (l : Line) (p : Params) (t : Nat) (r : Report) (a : LineState) :
    (l.append p t r a).takenSeq = l.takenSeq := rfl

@[simp] theorem Line.append_lastOutcome (l : Line) (p : Params) (t : Nat) (r : Report) (a : LineState) :
    (l.append p t r a).lastOutcome = l.lastOutcome := rfl

@[simp] theorem Line.append_cls (l : Line) (p : Params) (t : Nat) (r : Report) (a : LineState) :
    (l.append p t r a).cls = l.cls := rfl

@[simp] theorem Line.append_sup (l : Line) (p : Params) (t : Nat) (r : Report) (a : LineState) :
    (l.append p t r a).sup = l.sup := rfl

@[simp] theorem Line.append_rel (l : Line) (p : Params) (t : Nat) (r : Report) (a : LineState) :
    (l.append p t r a).rel = l.rel := rfl

@[simp] theorem Line.append_rep (l : Line) (p : Params) (t : Nat) (r : Report) (a : LineState) :
    (l.append p t r a).rep = l.rep.append p t r a := rfl

@[simp] theorem Line.enter_sampleIndex (l : Line) (st : LineState) (tone : Tone) :
    (l.enter st tone).sampleIndex = l.sampleIndex := rfl

@[simp] theorem Line.enter_takenSeq (l : Line) (st : LineState) (tone : Tone) :
    (l.enter st tone).takenSeq = l.takenSeq := rfl

@[simp] theorem Line.enter_lastOutcome (l : Line) (st : LineState) (tone : Tone) :
    (l.enter st tone).lastOutcome = l.lastOutcome := rfl

@[simp] theorem Line.enter_cls (l : Line) (st : LineState) (tone : Tone) :
    (l.enter st tone).cls = l.cls := rfl

@[simp] theorem Line.enter_sup_state (l : Line) (st : LineState) (tone : Tone) :
    (l.enter st tone).sup.state = st := rfl

@[simp] theorem Line.enter_sup_profile (l : Line) (st : LineState) (tone : Tone) :
    (l.enter st tone).sup.profile = l.sup.profile := rfl

@[simp] theorem Line.enter_sup_parties (l : Line) (st : LineState) (tone : Tone) :
    (l.enter st tone).sup.parties = l.sup.parties := rfl

@[simp] theorem Line.enter_sup_pulseCount (l : Line) (st : LineState) (tone : Tone) :
    (l.enter st tone).sup.pulseCount = l.sup.pulseCount := rfl

@[simp] theorem Line.enter_sup_errorSkip (l : Line) (st : LineState) (tone : Tone) :
    (l.enter st tone).sup.errorSkip = l.sup.errorSkip := rfl

@[simp] theorem Line.enter_sup_deadline (l : Line) (st : LineState) (tone : Tone) :
    (l.enter st tone).sup.deadline = none := rfl

@[simp] theorem Line.enter_sup_guardRecord (l : Line) (st : LineState) (tone : Tone) :
    (l.enter st tone).sup.guardRecord = l.sup.guardRecord := rfl

@[simp] theorem Line.enter_rel_ringRelay (l : Line) (st : LineState) (tone : Tone) :
    (l.enter st tone).rel.ringRelay = l.rel.ringRelay := rfl

@[simp] theorem Line.enter_rel_pending (l : Line) (st : LineState) (tone : Tone) :
    (l.enter st tone).rel.pending = l.rel.pending := rfl

@[simp] theorem Line.enter_rel_tone (l : Line) (st : LineState) (tone : Tone) :
    (l.enter st tone).rel.tone = tone := rfl

@[simp] theorem Line.enter_rel_testRelay (l : Line) (st : LineState) (tone : Tone) :
    (l.enter st tone).rel.testRelay = l.rel.testRelay := rfl

@[simp] theorem Line.enter_rel_windowEnd (l : Line) (st : LineState) (tone : Tone) :
    (l.enter st tone).rel.windowEnd = l.rel.windowEnd := rfl

@[simp] theorem Line.enter_rel_test (l : Line) (st : LineState) (tone : Tone) :
    (l.enter st tone).rel.test = l.rel.test := rfl

@[simp] theorem Line.enter_rep (l : Line) (st : LineState) (tone : Tone) :
    (l.enter st tone).rep = l.rep := rfl

@[simp] theorem Line.clearDigits_sampleIndex (l : Line) :
    (l.clearDigits).sampleIndex = l.sampleIndex := rfl

@[simp] theorem Line.clearDigits_takenSeq (l : Line) :
    (l.clearDigits).takenSeq = l.takenSeq := rfl

@[simp] theorem Line.clearDigits_lastOutcome (l : Line) :
    (l.clearDigits).lastOutcome = l.lastOutcome := rfl

@[simp] theorem Line.clearDigits_cls (l : Line) :
    (l.clearDigits).cls = l.cls := rfl

@[simp] theorem Line.clearDigits_sup_state (l : Line) :
    (l.clearDigits).sup.state = l.sup.state := rfl

@[simp] theorem Line.clearDigits_sup_profile (l : Line) :
    (l.clearDigits).sup.profile = l.sup.profile := rfl

@[simp] theorem Line.clearDigits_sup_parties (l : Line) :
    (l.clearDigits).sup.parties = l.sup.parties := rfl

@[simp] theorem Line.clearDigits_sup_pulseCount (l : Line) :
    (l.clearDigits).sup.pulseCount = 0 := rfl

@[simp] theorem Line.clearDigits_sup_errorSkip (l : Line) :
    (l.clearDigits).sup.errorSkip = false := rfl

@[simp] theorem Line.clearDigits_sup_deadline (l : Line) :
    (l.clearDigits).sup.deadline = l.sup.deadline := rfl

@[simp] theorem Line.clearDigits_sup_guardRecord (l : Line) :
    (l.clearDigits).sup.guardRecord = l.sup.guardRecord := rfl

@[simp] theorem Line.clearDigits_rel (l : Line) :
    (l.clearDigits).rel = l.rel := rfl

@[simp] theorem Line.clearDigits_rep (l : Line) :
    (l.clearDigits).rep = l.rep := rfl

@[simp] theorem Line.enterFresh_sampleIndex (l : Line) (st : LineState) (tone : Tone) :
    (l.enterFresh st tone).sampleIndex = l.sampleIndex := rfl

@[simp] theorem Line.enterFresh_takenSeq (l : Line) (st : LineState) (tone : Tone) :
    (l.enterFresh st tone).takenSeq = l.takenSeq := rfl

@[simp] theorem Line.enterFresh_lastOutcome (l : Line) (st : LineState) (tone : Tone) :
    (l.enterFresh st tone).lastOutcome = l.lastOutcome := rfl

@[simp] theorem Line.enterFresh_cls (l : Line) (st : LineState) (tone : Tone) :
    (l.enterFresh st tone).cls = l.cls := rfl

@[simp] theorem Line.enterFresh_sup_state (l : Line) (st : LineState) (tone : Tone) :
    (l.enterFresh st tone).sup.state = st := rfl

@[simp] theorem Line.enterFresh_sup_profile (l : Line) (st : LineState) (tone : Tone) :
    (l.enterFresh st tone).sup.profile = l.sup.profile := rfl

@[simp] theorem Line.enterFresh_sup_parties (l : Line) (st : LineState) (tone : Tone) :
    (l.enterFresh st tone).sup.parties = l.sup.parties := rfl

@[simp] theorem Line.enterFresh_sup_pulseCount (l : Line) (st : LineState) (tone : Tone) :
    (l.enterFresh st tone).sup.pulseCount = 0 := rfl

@[simp] theorem Line.enterFresh_sup_errorSkip (l : Line) (st : LineState) (tone : Tone) :
    (l.enterFresh st tone).sup.errorSkip = false := rfl

@[simp] theorem Line.enterFresh_sup_deadline (l : Line) (st : LineState) (tone : Tone) :
    (l.enterFresh st tone).sup.deadline = none := rfl

@[simp] theorem Line.enterFresh_sup_guardRecord (l : Line) (st : LineState) (tone : Tone) :
    (l.enterFresh st tone).sup.guardRecord = l.sup.guardRecord := rfl

@[simp] theorem Line.enterFresh_rel_ringRelay (l : Line) (st : LineState) (tone : Tone) :
    (l.enterFresh st tone).rel.ringRelay = l.rel.ringRelay := rfl

@[simp] theorem Line.enterFresh_rel_pending (l : Line) (st : LineState) (tone : Tone) :
    (l.enterFresh st tone).rel.pending = l.rel.pending := rfl

@[simp] theorem Line.enterFresh_rel_tone (l : Line) (st : LineState) (tone : Tone) :
    (l.enterFresh st tone).rel.tone = tone := rfl

@[simp] theorem Line.enterFresh_rel_testRelay (l : Line) (st : LineState) (tone : Tone) :
    (l.enterFresh st tone).rel.testRelay = l.rel.testRelay := rfl

@[simp] theorem Line.enterFresh_rel_windowEnd (l : Line) (st : LineState) (tone : Tone) :
    (l.enterFresh st tone).rel.windowEnd = l.rel.windowEnd := rfl

@[simp] theorem Line.enterFresh_rel_test (l : Line) (st : LineState) (tone : Tone) :
    (l.enterFresh st tone).rel.test = l.rel.test := rfl

@[simp] theorem Line.enterFresh_rep (l : Line) (st : LineState) (tone : Tone) :
    (l.enterFresh st tone).rep = l.rep := rfl

@[simp] theorem Line.enterGuard_sampleIndex (l : Line) (g : ExitTarget) :
    (l.enterGuard g).sampleIndex = l.sampleIndex := rfl

@[simp] theorem Line.enterGuard_takenSeq (l : Line) (g : ExitTarget) :
    (l.enterGuard g).takenSeq = l.takenSeq := rfl

@[simp] theorem Line.enterGuard_lastOutcome (l : Line) (g : ExitTarget) :
    (l.enterGuard g).lastOutcome = l.lastOutcome := rfl

@[simp] theorem Line.enterGuard_cls (l : Line) (g : ExitTarget) :
    (l.enterGuard g).cls = l.cls := rfl

@[simp] theorem Line.enterGuard_sup_state (l : Line) (g : ExitTarget) :
    (l.enterGuard g).sup.state = .ringGuard := rfl

@[simp] theorem Line.enterGuard_sup_profile (l : Line) (g : ExitTarget) :
    (l.enterGuard g).sup.profile = l.sup.profile := rfl

@[simp] theorem Line.enterGuard_sup_parties (l : Line) (g : ExitTarget) :
    (l.enterGuard g).sup.parties = l.sup.parties := rfl

@[simp] theorem Line.enterGuard_sup_pulseCount (l : Line) (g : ExitTarget) :
    (l.enterGuard g).sup.pulseCount = 0 := rfl

@[simp] theorem Line.enterGuard_sup_errorSkip (l : Line) (g : ExitTarget) :
    (l.enterGuard g).sup.errorSkip = false := rfl

@[simp] theorem Line.enterGuard_sup_deadline (l : Line) (g : ExitTarget) :
    (l.enterGuard g).sup.deadline = none := rfl

@[simp] theorem Line.enterGuard_sup_guardRecord (l : Line) (g : ExitTarget) :
    (l.enterGuard g).sup.guardRecord = some { guardEnd := none, target := g } := rfl

@[simp] theorem Line.enterGuard_rel_ringRelay (l : Line) (g : ExitTarget) :
    (l.enterGuard g).rel.ringRelay = l.rel.ringRelay := rfl

@[simp] theorem Line.enterGuard_rel_pending (l : Line) (g : ExitTarget) :
    (l.enterGuard g).rel.pending = l.rel.pending := rfl

@[simp] theorem Line.enterGuard_rel_tone (l : Line) (g : ExitTarget) :
    (l.enterGuard g).rel.tone = .none := rfl

@[simp] theorem Line.enterGuard_rel_testRelay (l : Line) (g : ExitTarget) :
    (l.enterGuard g).rel.testRelay = l.rel.testRelay := rfl

@[simp] theorem Line.enterGuard_rel_windowEnd (l : Line) (g : ExitTarget) :
    (l.enterGuard g).rel.windowEnd = l.rel.windowEnd := rfl

@[simp] theorem Line.enterGuard_rel_test (l : Line) (g : ExitTarget) :
    (l.enterGuard g).rel.test = l.rel.test := rfl

@[simp] theorem Line.enterGuard_rep (l : Line) (g : ExitTarget) :
    (l.enterGuard g).rep = l.rep := rfl

@[simp] theorem Line.enterLearning_sampleIndex (l : Line) :
    (l.enterLearning).sampleIndex = l.sampleIndex := rfl

@[simp] theorem Line.enterLearning_takenSeq (l : Line) :
    (l.enterLearning).takenSeq = l.takenSeq := rfl

@[simp] theorem Line.enterLearning_lastOutcome (l : Line) :
    (l.enterLearning).lastOutcome = l.lastOutcome := rfl

@[simp] theorem Line.enterLearning_cls (l : Line) :
    (l.enterLearning).cls = l.cls.startLearning := rfl

@[simp] theorem Line.enterLearning_sup_state (l : Line) :
    (l.enterLearning).sup.state = .learning := rfl

@[simp] theorem Line.enterLearning_sup_profile (l : Line) :
    (l.enterLearning).sup.profile = l.sup.profile := rfl

@[simp] theorem Line.enterLearning_sup_parties (l : Line) :
    (l.enterLearning).sup.parties = l.sup.parties := rfl

@[simp] theorem Line.enterLearning_sup_pulseCount (l : Line) :
    (l.enterLearning).sup.pulseCount = 0 := rfl

@[simp] theorem Line.enterLearning_sup_errorSkip (l : Line) :
    (l.enterLearning).sup.errorSkip = false := rfl

@[simp] theorem Line.enterLearning_sup_deadline (l : Line) :
    (l.enterLearning).sup.deadline = none := rfl

@[simp] theorem Line.enterLearning_sup_guardRecord (l : Line) :
    (l.enterLearning).sup.guardRecord = l.sup.guardRecord := rfl

@[simp] theorem Line.enterLearning_rel_ringRelay (l : Line) :
    (l.enterLearning).rel.ringRelay = l.rel.ringRelay := rfl

@[simp] theorem Line.enterLearning_rel_pending (l : Line) :
    (l.enterLearning).rel.pending = l.rel.pending := rfl

@[simp] theorem Line.enterLearning_rel_tone (l : Line) :
    (l.enterLearning).rel.tone = .none := rfl

@[simp] theorem Line.enterLearning_rel_testRelay (l : Line) :
    (l.enterLearning).rel.testRelay = l.rel.testRelay := rfl

@[simp] theorem Line.enterLearning_rel_windowEnd (l : Line) :
    (l.enterLearning).rel.windowEnd = l.rel.windowEnd := rfl

@[simp] theorem Line.enterLearning_rel_test (l : Line) :
    (l.enterLearning).rel.test = l.rel.test := rfl

@[simp] theorem Line.enterLearning_rep (l : Line) :
    (l.enterLearning).rep = l.rep := rfl

@[simp] theorem Line.setDeadline_sampleIndex (l : Line) (k : DeadlineKind) (t sec : Nat) :
    (l.setDeadline k t sec).sampleIndex = l.sampleIndex := rfl

@[simp] theorem Line.setDeadline_takenSeq (l : Line) (k : DeadlineKind) (t sec : Nat) :
    (l.setDeadline k t sec).takenSeq = l.takenSeq := rfl

@[simp] theorem Line.setDeadline_lastOutcome (l : Line) (k : DeadlineKind) (t sec : Nat) :
    (l.setDeadline k t sec).lastOutcome = l.lastOutcome := rfl

@[simp] theorem Line.setDeadline_cls (l : Line) (k : DeadlineKind) (t sec : Nat) :
    (l.setDeadline k t sec).cls = l.cls := rfl

@[simp] theorem Line.setDeadline_sup_state (l : Line) (k : DeadlineKind) (t sec : Nat) :
    (l.setDeadline k t sec).sup.state = l.sup.state := rfl

@[simp] theorem Line.setDeadline_sup_profile (l : Line) (k : DeadlineKind) (t sec : Nat) :
    (l.setDeadline k t sec).sup.profile = l.sup.profile := rfl

@[simp] theorem Line.setDeadline_sup_parties (l : Line) (k : DeadlineKind) (t sec : Nat) :
    (l.setDeadline k t sec).sup.parties = l.sup.parties := rfl

@[simp] theorem Line.setDeadline_sup_pulseCount (l : Line) (k : DeadlineKind) (t sec : Nat) :
    (l.setDeadline k t sec).sup.pulseCount = l.sup.pulseCount := rfl

@[simp] theorem Line.setDeadline_sup_errorSkip (l : Line) (k : DeadlineKind) (t sec : Nat) :
    (l.setDeadline k t sec).sup.errorSkip = l.sup.errorSkip := rfl

@[simp] theorem Line.setDeadline_sup_deadline (l : Line) (k : DeadlineKind) (t sec : Nat) :
    (l.setDeadline k t sec).sup.deadline = some (k, BitVec.ofNat 32 (t + sec * 1000)) := rfl

@[simp] theorem Line.setDeadline_sup_guardRecord (l : Line) (k : DeadlineKind) (t sec : Nat) :
    (l.setDeadline k t sec).sup.guardRecord = l.sup.guardRecord := rfl

@[simp] theorem Line.setDeadline_rel (l : Line) (k : DeadlineKind) (t sec : Nat) :
    (l.setDeadline k t sec).rel = l.rel := rfl

@[simp] theorem Line.setDeadline_rep (l : Line) (k : DeadlineKind) (t sec : Nat) :
    (l.setDeadline k t sec).rep = l.rep := rfl

@[simp] theorem Line.cancelDeadline_sampleIndex (l : Line) :
    (l.cancelDeadline).sampleIndex = l.sampleIndex := rfl

@[simp] theorem Line.cancelDeadline_takenSeq (l : Line) :
    (l.cancelDeadline).takenSeq = l.takenSeq := rfl

@[simp] theorem Line.cancelDeadline_lastOutcome (l : Line) :
    (l.cancelDeadline).lastOutcome = l.lastOutcome := rfl

@[simp] theorem Line.cancelDeadline_cls (l : Line) :
    (l.cancelDeadline).cls = l.cls := rfl

@[simp] theorem Line.cancelDeadline_sup_state (l : Line) :
    (l.cancelDeadline).sup.state = l.sup.state := rfl

@[simp] theorem Line.cancelDeadline_sup_profile (l : Line) :
    (l.cancelDeadline).sup.profile = l.sup.profile := rfl

@[simp] theorem Line.cancelDeadline_sup_parties (l : Line) :
    (l.cancelDeadline).sup.parties = l.sup.parties := rfl

@[simp] theorem Line.cancelDeadline_sup_pulseCount (l : Line) :
    (l.cancelDeadline).sup.pulseCount = l.sup.pulseCount := rfl

@[simp] theorem Line.cancelDeadline_sup_errorSkip (l : Line) :
    (l.cancelDeadline).sup.errorSkip = l.sup.errorSkip := rfl

@[simp] theorem Line.cancelDeadline_sup_deadline (l : Line) :
    (l.cancelDeadline).sup.deadline = none := rfl

@[simp] theorem Line.cancelDeadline_sup_guardRecord (l : Line) :
    (l.cancelDeadline).sup.guardRecord = l.sup.guardRecord := rfl

@[simp] theorem Line.cancelDeadline_rel (l : Line) :
    (l.cancelDeadline).rel = l.rel := rfl

@[simp] theorem Line.cancelDeadline_rep (l : Line) :
    (l.cancelDeadline).rep = l.rep := rfl

@[simp] theorem Line.outOfService_sampleIndex (l : Line) :
    (l.outOfService).sampleIndex = l.sampleIndex := rfl

@[simp] theorem Line.outOfService_takenSeq (l : Line) :
    (l.outOfService).takenSeq = l.takenSeq := rfl

@[simp] theorem Line.outOfService_lastOutcome (l : Line) :
    (l.outOfService).lastOutcome = l.lastOutcome := rfl

@[simp] theorem Line.outOfService_cls (l : Line) :
    (l.outOfService).cls = l.cls.interrupted := rfl

@[simp] theorem Line.outOfService_sup_state (l : Line) :
    (l.outOfService).sup.state = .outOfService := rfl

@[simp] theorem Line.outOfService_sup_profile (l : Line) :
    (l.outOfService).sup.profile = l.sup.profile := rfl

@[simp] theorem Line.outOfService_sup_parties (l : Line) :
    (l.outOfService).sup.parties = l.sup.parties := rfl

@[simp] theorem Line.outOfService_sup_pulseCount (l : Line) :
    (l.outOfService).sup.pulseCount = 0 := rfl

@[simp] theorem Line.outOfService_sup_errorSkip (l : Line) :
    (l.outOfService).sup.errorSkip = false := rfl

@[simp] theorem Line.outOfService_sup_deadline (l : Line) :
    (l.outOfService).sup.deadline = none := rfl

@[simp] theorem Line.outOfService_sup_guardRecord (l : Line) :
    (l.outOfService).sup.guardRecord = none := rfl

@[simp] theorem Line.outOfService_rel (l : Line) :
    (l.outOfService).rel = .allReleased := rfl

@[simp] theorem Line.outOfService_rep (l : Line) :
    (l.outOfService).rep = l.rep := rfl

@[simp] theorem Line.leaveIgnore_sampleIndex (l : Line) :
    (l.leaveIgnore).sampleIndex = l.sampleIndex := rfl

@[simp] theorem Line.leaveIgnore_takenSeq (l : Line) :
    (l.leaveIgnore).takenSeq = l.takenSeq := rfl

@[simp] theorem Line.leaveIgnore_lastOutcome (l : Line) :
    (l.leaveIgnore).lastOutcome = l.lastOutcome := rfl

@[simp] theorem Line.leaveIgnore_cls (l : Line) :
    (l.leaveIgnore).cls = l.cls.leaveIgnore l.sampleIndex := rfl

@[simp] theorem Line.leaveIgnore_sup (l : Line) :
    (l.leaveIgnore).sup = l.sup := rfl

@[simp] theorem Line.leaveIgnore_rel (l : Line) :
    (l.leaveIgnore).rel = l.rel := rfl

@[simp] theorem Line.leaveIgnore_rep (l : Line) :
    (l.leaveIgnore).rep = l.rep := rfl

@[simp] theorem Line.releaseAtCrossing_sampleIndex (l : Line) :
    (l.releaseAtCrossing).sampleIndex = l.sampleIndex := rfl

@[simp] theorem Line.releaseAtCrossing_takenSeq (l : Line) :
    (l.releaseAtCrossing).takenSeq = l.takenSeq := rfl

@[simp] theorem Line.releaseAtCrossing_lastOutcome (l : Line) :
    (l.releaseAtCrossing).lastOutcome = l.lastOutcome := rfl

@[simp] theorem Line.releaseAtCrossing_cls (l : Line) :
    (l.releaseAtCrossing).cls = l.cls := rfl

@[simp] theorem Line.releaseAtCrossing_sup (l : Line) :
    (l.releaseAtCrossing).sup = l.sup := rfl

@[simp] theorem Line.releaseAtCrossing_rel_ringRelay (l : Line) :
    (l.releaseAtCrossing).rel.ringRelay = l.rel.ringRelay := rfl

@[simp] theorem Line.releaseAtCrossing_rel_pending (l : Line) :
    (l.releaseAtCrossing).rel.pending = .release := rfl

@[simp] theorem Line.releaseAtCrossing_rel_tone (l : Line) :
    (l.releaseAtCrossing).rel.tone = l.rel.tone := rfl

@[simp] theorem Line.releaseAtCrossing_rel_testRelay (l : Line) :
    (l.releaseAtCrossing).rel.testRelay = l.rel.testRelay := rfl

@[simp] theorem Line.releaseAtCrossing_rel_windowEnd (l : Line) :
    (l.releaseAtCrossing).rel.windowEnd = l.rel.windowEnd := rfl

@[simp] theorem Line.releaseAtCrossing_rel_test (l : Line) :
    (l.releaseAtCrossing).rel.test = l.rel.test := rfl

@[simp] theorem Line.releaseAtCrossing_rep (l : Line) :
    (l.releaseAtCrossing).rep = l.rep := rfl

/-! ### Reading a line -/

@[simp] theorem State.updLine_line_same (s : State) (n : LineNo) (f : Line → Line) :
    (s.updLine n f).line n = f (s.line n) := by
  simp [State.line, State.updLine]

theorem State.updLine_line_ne (s : State) {n m : LineNo} (f : Line → Line) (h : m ≠ n) :
    (s.updLine n f).line m = s.line m := by
  have h' : n.val ≠ m.val := fun e => h (Fin.ext e.symm)
  simp [State.line, State.updLine, Vector.getElem_set_ne, h']

/-- A line after a change of one line. -/
theorem State.updLine_line (s : State) (n m : LineNo) (f : Line → Line) :
    (s.updLine n f).line m = if m = n then f (s.line n) else s.line m := by
  by_cases h : m = n
  · subst h; simp
  · simp [h, State.updLine_line_ne]

@[simp] theorem State.mapLines_line (s : State) (g : LineNo → Line → Line) (m : LineNo) :
    (s.mapLines g).line m = g m (s.line m) := by
  simp [State.line, State.mapLines]

@[simp] theorem State.report_line_same (s : State) (n : LineNo) (r : Report) :
    (s.report n r).line n =
      (s.line n).append s.control.params s.shelfTime r (s.line n).sup.state := by
  simp [State.report]

theorem State.report_line_ne (s : State) {n m : LineNo} (r : Report) (h : m ≠ n) :
    (s.report n r).line m = s.line m := State.updLine_line_ne s _ h

/-- Appending a report changes no setting, so it sends no relay word (R130). -/
@[simp] theorem State.report_sent (s : State) (n : LineNo) (r : Report) :
    (s.report n r).sent = s.sent := by
  simp [State.report, State.updLine, relayWords, Line.append, Line.setting]

/-- Two lines with one setting need no relay word between them (R130). -/
@[simp] theorem relayWords_of_setting_eq (p : Bool) (n : LineNo) {l l' : Line}
    (h : l.setting = l'.setting) : relayWords p n l l' = [] := by
  simp [relayWords, h]

end Sys2Proof.Machine
end

