-- ==== Sys2Proof/Laws/Ops.lean ====
section
/-! SUPPORT. What each shared operation can do, said once: the fit test and the two searches, the slot load
table under additions and removals, the places in the wait list, and the form of the rows that act only
when their event comes about. -/

namespace Sys2Proof.Machine

/-! ### The fit test and the searches (R96 to R98) -/

/-- R96: a party fits exactly when no slot that its mask rings in would go above the capacity. -/
theorem fits_iff {loads : Vector Nat 12} {capacity : Nat} {m : Mask} {w : Nat} {r : FrameSlot} :
    fits loads capacity m w r = true ↔
      ∀ k : FrameSlot, m[k - r] = true → loads[k] + w ≤ capacity := by
  simp only [fits, ringsIn, List.all_eq_true, List.mem_finRange, true_implies, Bool.or_eq_true,
    Bool.not_eq_true', decide_eq_true_eq]
  exact forall_congr' fun k => by cases h : m[k - r] <;> simp

/-- A search that answers a rotation answers the first one, counted from its start, at which the party
fits. -/
theorem searchFrom_some {loads : Vector Nat 12} {capacity : Nat} {m : Mask} {w : Nat}
    {start r : FrameSlot} (h : searchFrom loads capacity m w start = some r) :
    ∃ d : Fin 12, r = start + d ∧ fits loads capacity m w r = true ∧
      ∀ j : Fin 12, j < d → fits loads capacity m w (start + j) = false := by
  unfold searchFrom at h
  rw [List.find?_map, Option.map_eq_some_iff] at h
  obtain ⟨d, hd, rfl⟩ := h
  rw [List.find?_eq_some_iff_getElem] at hd
  obtain ⟨hfit, i, hi, hget, hlt⟩ := hd
  refine ⟨d, rfl, hfit, fun j hj => ?_⟩
  have hiv : d.val = i := by rw [← hget]; simp
  have := hlt j.val (by omega)
  simpa using this

/-- A search that answers nothing has found a fit at no rotation. -/
theorem searchFrom_none {loads : Vector Nat 12} {capacity : Nat} {m : Mask} {w : Nat}
    {start : FrameSlot} (h : searchFrom loads capacity m w start = none) (j : Fin 12) :
    fits loads capacity m w (start + j) = false := by
  unfold searchFrom at h
  rw [List.find?_map, Option.map_eq_none_iff, List.find?_eq_none] at h
  simpa using h j (List.mem_finRange j)

/-- The first rotation that fits is the one a search answers. -/
theorem searchFrom_eq_some {loads : Vector Nat 12} {capacity : Nat} {m : Mask} {w : Nat}
    {start : FrameSlot} {d : Fin 12} (hd : fits loads capacity m w (start + d) = true)
    (hlt : ∀ j : Fin 12, j < d → fits loads capacity m w (start + j) = false) :
    searchFrom loads capacity m w start = some (start + d) := by
  cases h : searchFrom loads capacity m w start with
  | none => exact absurd (searchFrom_none h d) (by simp [hd])
  | some r =>
    obtain ⟨e, rfl, hfit, hbefore⟩ := searchFrom_some h
    rcases lt_trichotomy d e with hde | rfl | hde
    · exact absurd (hbefore d hde) (by simp [hd])
    · rfl
    · exact absurd (hlt e hde) (by simp [hfit])

/-! ### The slot load table (R92, R94) -/

/-- R94: a booking adds its contribution to each slot. -/
theorem addLoad_get (loads : Vector Nat 12) (b : Booking) (k : FrameSlot) :
    (addLoad loads b)[k] = loads[k] + b.contribution k := by
  simp [addLoad]

/-- R94: a removal takes it away again. -/
theorem subLoad_get (loads : Vector Nat 12) (b : Booking) (k : FrameSlot) :
    (subLoad loads b)[k] = loads[k] - b.contribution k := by
  simp [subLoad]

/-- Several removals take away the sum of what was contributed. -/
theorem foldl_subLoad_get (bs : List Booking) (loads : Vector Nat 12) (k : FrameSlot) :
    (bs.foldl subLoad loads)[k] = loads[k] - (bs.map fun b => b.contribution k).sum := by
  induction bs generalizing loads with
  | nil => simp
  | cons b bs ih =>
    have h := subLoad_get loads b k
    simp only [List.foldl_cons, List.map_cons, List.sum_cons, ih, h]
    omega

/-- The contributions of a list are those of the picked and of the others. -/
theorem sum_contribution_filter (bs : List Booking) (p : Booking → Bool) (k : FrameSlot) :
    (bs.map fun b => b.contribution k).sum =
      ((bs.filter p).map fun b => b.contribution k).sum +
        ((bs.filter fun b => !p b).map fun b => b.contribution k).sum := by
  induction bs with
  | nil => rfl
  | cons b bs ih => cases h : p b <;> simp [h, ih] <;> omega

/-- R92: the table keeps matching the bookings when some are removed. -/
theorem dropBookings_loads {s : State} (p : LineNo → Bool) (k : FrameSlot)
    (h : s.sched.loads[k] = (s.sched.bookings.map fun b => b.contribution k).sum) :
    (s.dropBookings p).sched.loads[k] =
      ((s.dropBookings p).sched.bookings.map fun b => b.contribution k).sum := by
  have hs := sum_contribution_filter s.sched.bookings (fun b => p b.line) k
  have hf := foldl_subLoad_get (s.sched.bookings.filter fun b => p b.line) s.sched.loads k
  simp only [State.dropBookings]
  rw [hf, h, hs]
  omega

/-- R92: the table keeps matching the bookings when one is added. -/
theorem addBooking_loads {s : State} (b : Booking) (k : FrameSlot)
    (h : s.sched.loads[k] = (s.sched.bookings.map fun b => b.contribution k).sum) :
    (s.addBooking b).sched.loads[k] =
      ((s.addBooking b).sched.bookings.map fun b => b.contribution k).sum := by
  have ha := addLoad_get s.sched.loads b k
  simp only [State.addBooking]
  rw [ha, h]
  simp

/-- R96: booking a party where it fits keeps a slot within the capacity. -/
theorem addBooking_within {s : State} {b : Booking} {capacity : Nat} (k : FrameSlot)
    (hfit : fits s.sched.loads capacity b.mask b.load b.rotation = true)
    (h : s.sched.loads[k] ≤ capacity) : (s.addBooking b).sched.loads[k] ≤ capacity := by
  have ha := addLoad_get s.sched.loads b k
  have hf := fits_iff.1 hfit k
  simp only [State.addBooking]
  rw [ha, Booking.contribution]
  by_cases hm : ringsIn b.mask b.rotation k = true
  · rw [if_pos hm]
    exact hf hm
  · rw [if_neg hm]
    exact h

/-! ### Places in the wait list (R102, R104) -/

/-- An entry that joins at the tail takes the place behind all others. -/
theorem waitPosition_append {w : List WaitEntry} {e : WaitEntry} (h : ∀ x ∈ w, x.line ≠ e.line) :
    waitPosition (w ++ [e]) e.line = w.length + 1 := by
  induction w with
  | nil => simp [waitPosition]
  | cons x w ih =>
    have hx : x.line ≠ e.line := h x (by simp)
    have ih' := ih fun y hy => h y (List.mem_cons_of_mem _ hy)
    simp [waitPosition, hx, ih']

/-- A line without an entry has position 0. -/
theorem waitPosition_eq_zero {w : List WaitEntry} {n : LineNo} (h : ∀ x ∈ w, x.line ≠ n) :
    waitPosition w n = 0 := by
  induction w with
  | nil => rfl
  | cons x w ih =>
    have hx : x.line ≠ n := h x (by simp)
    simp [waitPosition, hx, ih fun y hy => h y (List.mem_cons_of_mem _ hy)]

/-- R102: where an entry is placed behind the last that `p` picks, it splits the list there. -/
theorem insertBehindLast_some {p : WaitEntry → Bool} {e : WaitEntry} {w w' : List WaitEntry}
    (h : insertBehindLast p e w = some w') :
    ∃ front x back, w = front ++ x :: back ∧ w' = front ++ x :: e :: back ∧ p x = true ∧
      ∀ y ∈ back, p y = false := by
  induction w generalizing w' with
  | nil => simp [insertBehindLast] at h
  | cons a w ih =>
    simp only [insertBehindLast] at h
    cases hw : insertBehindLast p e w with
    | some v =>
      rw [hw] at h
      obtain ⟨front, x, back, rfl, rfl, hx, hb⟩ := ih hw
      refine ⟨a :: front, x, back, rfl, ?_, hx, hb⟩
      simpa using h.symm
    | none =>
      rw [hw] at h
      cases ha : p a with
      | false => simp [ha] at h
      | true =>
        simp only [ha, if_true, Option.some.injEq] at h
        refine ⟨[], a, w, rfl, h.symm, ha, ?_⟩
        clear h ha ih
        induction w with
        | nil => simp
        | cons b w ihw =>
          simp only [insertBehindLast] at hw
          cases hb : insertBehindLast p e w with
          | some v => simp [hb] at hw
          | none =>
            rw [hb] at hw
            cases hpb : p b with
            | true => simp [hpb] at hw
            | false =>
              intro y hy
              rcases List.mem_cons.1 hy with rfl | hy
              · exact hpb
              · exact ihw hb y hy

/-- R102: where it is not so placed, no entry of the list is picked. -/
theorem insertBehindLast_none {p : WaitEntry → Bool} {e : WaitEntry} {w : List WaitEntry}
    (h : insertBehindLast p e w = none) : ∀ y ∈ w, p y = false := by
  induction w with
  | nil => simp
  | cons a w ih =>
    simp only [insertBehindLast] at h
    cases hw : insertBehindLast p e w with
    | some v => simp [hw] at h
    | none =>
      rw [hw] at h
      cases ha : p a with
      | true => simp [ha] at h
      | false =>
        intro y hy
        rcases List.mem_cons.1 hy with rfl | hy
        · exact ha
        · exact ih hw y hy

/-! ### A load that writes meet (R20) -/

/-- R20: a load that writes meet installs what the block with the early writes yields, and stores the late
writes after it. -/
theorem State.loadMeeting_eq (s : State) (early late : List BusWrite) :
    s.loadMeeting early late = (s.writes early).loadParams.writes late := rfl

/-- R20: without writes a load is the load of the block as it stands. -/
@[simp] theorem State.loadMeeting_nil (s : State) : s.loadMeeting [] [] = s.loadParams := rfl

/-- R20: the parameters that a load installs are those of the block once the early writes have landed. -/
@[simp] theorem State.loadMeeting_params (s : State) (early late : List BusWrite) :
    (s.loadMeeting early late).control.params = (s.writes early).loadedParams := by
  simp [State.loadMeeting, State.loadParams]

/-- A load that writes meet keeps the canonical form. -/
theorem State.loadMeeting_wf {s : State} (early late : List BusWrite)
    (h : Memory.wf s.port.mem = true) : Memory.wf (s.loadMeeting early late).port.mem = true :=
  State.writes_wf late (State.writes_wf early h)

/-! ### Commands and steps -/

/-- A row that names what an arrival brings about leaves the state, or is the whole arrival. -/
theorem State.arrivalIf_cases (s : State) (due : Bool) (n : LineNo) (a : Option Byte) :
    s.arrivalIf due n a = s ∨ s.arrivalIf due n a = s.arrival n a := by
  cases due
  · exact .inl rfl
  · exact .inr rfl

/-- An order's row leaves the state, or takes the order. -/
theorem State.order_cases (s : State) (n : LineNo) (kind seq : Byte) (a : Answer) :
    s.order n kind seq a = s ∨
      (s.takesOrder n seq = true ∧ s.order n kind seq a = a.taken n kind seq) := by
  unfold State.order
  cases h : s.takesOrder n seq
  · exact .inl rfl
  · exact .inr ⟨rfl, rfl⟩

/-- R130: the words that a change sends are words for its line. -/
theorem relayWords_line {present : Bool} {n : LineNo} {l l' : Line} {w : RelayWord}
    (h : w ∈ relayWords present n l l') : w.line = n := by
  unfold relayWords at h
  split at h
  · simp only [List.mem_singleton] at h
    exact h ▸ rfl
  · simp at h

/-- No command is ever refused and none faults: every one has a next state. -/
theorem exec_next (i : Instr) (s : State) : ∃ t, exec i s = .next t := by
  cases i <;> exact ⟨_, rfl⟩

/-- Every step has a next state. -/
theorem step_next (s : State) : ∃ t, step s = .next t := by
  unfold step
  split
  · exact ⟨_, rfl⟩
  · exact exec_next _ _

end Sys2Proof.Machine
end

