-- ==== Sys2Proof/Tests/Slice0.lean ====
section
/-! SUPPORT. Tests: the checks of WellFormed refuse, a witness for the hypotheses of every statement that has
some, and the worked examples of the manual in small. -/

namespace Sys2Proof.Tests

open Sys2Proof Sys2Proof.Machine Sys2Proof.Safety

-- The theorems below are kernel evaluations: one at a time, they do not fill the memory with threads.
set_option Elab.async false

/-! ### WellFormed refuses -/

/-- A write at offset 0x2800 is no work-memory write (R1). -/
theorem wf_write_outside :
    Instr.wellFormed (.workMemoryWrite ⟨0x1400, 1, true, true⟩) = false := by decide

/-- A write in the work memory is no ignored register write (R1). -/
theorem wf_ignored_inside :
    Instr.wellFormed (.registerWriteIgnored ⟨0x13FF, 1, true, true⟩) = false := by decide

/-- A write of the control register's low byte acts (R7). -/
theorem wf_ignored_control :
    Instr.wellFormed (.registerWriteIgnored ⟨0x3FFC, 1, true, false⟩) = false := by decide

/-- The writes that land in a visit are work-memory writes, the early ones and the late ones. -/
theorem wf_visit_writes :
    Instr.wellFormed (.orderIntakeVisit 0 [⟨0x1400, 1, true, true⟩] []) = false ∧
      Instr.wellFormed (.orderIntakeVisit 0 [] [⟨0x1400, 1, true, true⟩]) = false := by decide

/-- The writes that meet a parameter load are work-memory writes. -/
theorem wf_load_writes :
    ∀ w ∈ [BusWrite.mk 0x1400 1 true true, ⟨0x3FFC, 1, true, true⟩],
      Instr.wellFormed (.run true [w] []) = false ∧ Instr.wellFormed (.startingEnd [] [w]) = false ∧
        Instr.wellFormed (.slotBoundary [w] []) = false ∧
        Instr.wellFormed (.ringEndNoAnswer 3 [] [w]) = false ∧
        Instr.wellFormed (.ringEndWaitLimit 3 [w] []) = false := by decide

/-- A kind code of 7 is a TEST, no refused kind (R12). -/
theorem wf_badKind_seven : Instr.wellFormed (.badKind 0 1 7) = false := by decide

/-- Good terms pass. -/
theorem wf_good :
    Instr.wellFormed (.workMemoryWrite ⟨0x13FF, 1, true, true⟩) = true ∧
      Instr.wellFormed (.registerWriteIgnored ⟨0x3FFC, 1, false, true⟩) = true ∧
      Instr.wellFormed (.badKind 0 1 8) = true ∧ Instr.wellFormed .slotBoundary = true := by decide

/-- No row of the table gives bits, so no word spells a command. -/
theorem decode_none : decodeTableWord 0 0 = none ∧ decodeTableWord 16 5 = none := by decide

/-! ### Small states -/

/-- A line after power-on, in this state, with a party 0 of 10 RU on lead B. -/
def lineIn (st : LineState) : Line :=
  { Line.powerOn with
    sup := { Line.powerOn.sup with
      state := st, parties := Vector.replicate 4 { code := 0, load := 10, lead := .b } } }

/-- The shelf RUNNING at 1,000 ms within slot 0, its source RUNNING, capacity 30 RU, with line 3 as
given. -/
def shelf (l : Line) : State :=
  { State.reset with
    port := { State.reset.port with run := true }
    control := { State.reset.control with
      shelf := .running, params := { Params.fromZero with capacity := 30 } }
    lines := State.reset.lines.set 3 l
    sched := { State.reset.sched with nextBoundary := some 1000 }
    source := { state := .running, goodCount := 8, lastCrossing := some 0
                lossDeadline := some 100000 }
    shelfTime := 1000 }

/-- The shelf with every profile's D as given. -/
def debounced (d : Nat) (s : State) : State :=
  { s with control := { s.control with params := { s.control.params with
      profiles := Vector.replicate 8 { Profile.fromZero with d := d } } } }

/-- The state that a command leads to. -/
def after (i : Instr) (s : State) : State :=
  match exec i s with
  | .next t => t
  | .fault _ => s
  | .refused _ => s

/-- Line 3's booking at rotation r, of 10 RU on mark 0. -/
def booked (r : FrameSlot) (firstBurst : Bool) (rung limit : Nat) : Booking :=
  { line := 3, party := 0, rotation := r, mask := .fromZero, load := 10, framesRung := rung,
    maxFrames := limit, firstBurst := firstBurst, change := none }

/-- The shelf with this line 3 RINGING on a booking. -/
def ringingWith (l : Line) (b : Booking) : State :=
  { shelf l with sched := { (shelf l).sched with
      bookings := [b], loads := addLoad (shelf l).sched.loads b } }

/-- The shelf with line 3 RINGING on this booking. -/
def ringing (b : Booking) : State := ringingWith (lineIn .ringing) b

/-- The shelf with line 3 in RING WAIT for this many frames, and its slot. -/
def waiting (slot : FrameSlot) (frames : Nat) (blocking : Bool) : State :=
  let s := shelf (lineIn .ringWait)
  { s with sched := { s.sched with
      slot := slot
      waits := [{ line := 3, party := 0, maxFrames := 2, framesWaited := frames
                  blocking := blocking, mark := none }] } }

/-- The shelf with this mailbox sequence and kind at line 0, which the visit pointer points at. -/
def posted (seq kind value : Byte) : State :=
  let s := shelf (lineIn .idle)
  { s with port := { s.port with
      mem := Memory.write (Memory.write (Memory.write [] 0x810 seq) 0x811 kind) 0x815 value } }

/-- Line 3 with its card absent. -/
def cardless (l : Line) : State :=
  { shelf l with slots := (shelf l).slots.set 0 { seated := false, presence := .absent
                                                  deadline := none } }

/-- A line that is confirmed closed with make start m0, its raw state closed, in this state. -/
def offHook (st : LineState) (m0 : BitVec 32) (k : BitVec 32) : Line :=
  { lineIn st with
    sampleIndex := k
    cls := { (lineIn st).cls with confirmed := .closed, raw := .closed, makeStart := some m0 } }

/-- A line that is confirmed open in a break from k0, in this state. -/
def onBreak (st : LineState) (k0 : BitVec 32) (k : BitVec 32) : Line :=
  { lineIn st with
    sampleIndex := k
    cls := { (lineIn st).cls with breakStart := some k0, makeStart := some 1 } }

/-! ### Witnesses: the hypotheses of the statements are met -/

/-- Host-owned words at both ends of the parameter block and of line 0's inbound area, and the part-owned words
next to them; and stored bytes in their canonical form. -/
theorem witness_WorkMemoryWriteStoresOrDiscards :
    MemoryCanonical (posted 1 7 3) ∧
    (([0x080, 0x3FF, 0x400, 0x40F] : List (BitVec 14)).all fun a =>
      BusWrite.inWorkMemory ⟨a, 0xABCD, true, false⟩ &&
        hostOwned (BusWrite.offset ⟨a, 0xABCD, true, false⟩)) = true ∧
    (([0x000, 0x07F, 0x410, 0x13FF] : List (BitVec 14)).all fun a =>
      BusWrite.inWorkMemory ⟨a, 0xABCD, false, true⟩ &&
        !hostOwned (BusWrite.offset ⟨a, 0xABCD, false, true⟩)) = true := by decide +kernel

theorem witness_CommandsThatFindNothing :
    (orderRow (.note 3 0) = some (3, 0, 0) ∧ ¬Takes (shelf (lineIn .idle)) 3 0) ∧
    (orderRow (.badKind 3 1 8) = some (3, 8, 1) ∧ ¬Takes State.reset 3 1) ∧
    (lineOf (.seize 3 none) = some 3 ∧ orderRow (.seize 3 none) = none ∧
      ¬Sampled (cardless (lineIn .outOfService)) 3) ∧
    State.reset.control.shelf ≠ .running ∧ State.reset.sched.nextBoundary = none := by
  unfold Takes Sampled; decide +kernel

theorem witness_AttentionReadLatchesLowestLine :
    (let s := { shelf { lineIn .idle with rep := { Line.powerOn.rep with attention := true } } with
        latch := some 5 };
      s.latch = some 5) ∧
    (let s := shelf { lineIn .idle with rep := { Line.powerOn.rep with attention := true } };
      s.latch = none ∧ s.attentionBit 3 = true ∧ ∀ m, m < 3 → s.attentionBit m = false) ∧
    (State.reset.latch = none ∧ State.reset.attentionCount = 0) ∧
    (let s := { shelf { lineIn .idle with rep := { Line.powerOn.rep with attention := true } } with
        visitPointer := 3 };
      s.mailSequence s.visitPointer = (s.line s.visitPointer).takenSeq ∧
        s.attentionBit s.visitPointer = true) := by decide +kernel

theorem witness_InterruptFollowsCountAndEnable :
    RunShowsShelf State.reset ∧ RunShowsShelf (shelf (lineIn .idle)) := by decide +kernel

/-- HALTED after power-on, and with an IDLE line, which RUN moves. -/
theorem witness_RunStartsTheShelf :
    (State.reset.control.shelf = .halted ∧ HaltedLinesRest State.reset ∧ TonesFit State.reset) ∧
    (let s := { State.reset with lines := State.reset.lines.set 3 (lineIn .idle) };
      s.control.shelf = .halted ∧ HaltedLinesRest s ∧ TonesFit s) ∧
    (shelf (lineIn .idle)).control.shelf ≠ .halted := by
  exact ⟨by decide +kernel, by decide +kernel, by decide +kernel⟩

theorem witness_HaltEndsAllWork :
    State.reset.control.shelf = .halted ∧ (shelf (lineIn .idle)).control.shelf ≠ .halted := by
  decide +kernel

theorem witness_LoadRecordsAdjustments : State.reset.control.shelf = .halted := rfl

/-- The 16 ms have just run, with the generation as taken and with a new one, and have a millisecond to run. -/
theorem witness_StartingEndsInRunning :
    let s := { after (.run false) State.reset with shelfTime := 16 }
    (s.control.shelf = .starting ∧ s.control.startingEnd = some 16 ∧ 16 ≤ s.shelfTime ∧
      s.sched.bookings = [] ∧ s.sched.waits = [] ∧ s.readByte 0x100 = s.control.generationTaken) ∧
    (let s' := { s with port := { s.port with mem := [(0x100, 7)] } };
      s'.control.shelf = .starting ∧ s'.control.startingEnd = some 16 ∧ 16 ≤ s'.shelfTime ∧
        s'.sched.bookings = [] ∧ s'.sched.waits = [] ∧
        s'.readByte 0x100 ≠ s'.control.generationTaken) ∧
    (let s' := { s with shelfTime := 15 };
      s'.control.shelf = .starting ∧ s'.control.startingEnd = some 16 ∧ s'.shelfTime < 16) := by
  decide +kernel

theorem witness_VisitReadsTakenCount :
    State.reset.control.shelf ≠ .running ∧
    (let s := shelf (lineIn .idle);
      s.control.shelf = .running ∧
        s.readByte (recordBase s.visitPointer + 0x10) = (s.line s.visitPointer).takenSeq) := by
  decide +kernel

/-- A NOTE is posted; a SERVICE with value 2 is; the sequence is the taken one; it changes in between. -/
theorem witness_VisitTakesPostedOrder :
    (let s := posted 1 0 0;
      s.control.shelf = .running ∧ s.mailSequence s.visitPointer = 1 ∧
        (s.line s.visitPointer).takenSeq ≠ 1 ∧ postedRow (s.readTakenCount 0) 0 1 0 = some (.note 0 1)) ∧
    (let s := posted 1 1 2;
      s.mailSequence s.visitPointer = 1 ∧ postedRow (s.readTakenCount 0) 0 1 0 = none) ∧
    (posted 0 0 0).mailSequence 0 = ((posted 0 0 0).line 0).takenSeq ∧
    (((posted 1 0 0).readTakenCount 0).writes [⟨0x408, 2, true, false⟩]).mailSequence 0 ≠ 1 := by
  decide +kernel

/-- In every state of a line an order can be taken, at both ends of the refused kinds too. -/
theorem witness_NoteAcceptedBadKindRefused :
    ∀ st, Takes (shelf (lineIn st)) 3 1 ∧ (shelf (lineIn st)).stateOf 3 = st ∧
      8 ≤ (8 : Byte).toNat ∧ 8 ≤ (255 : Byte).toNat := by
  intro st; cases st <;> (unfold Takes; decide +kernel)

theorem witness_ServiceOrders :
    (∀ st, Takes (shelf (lineIn st)) 3 1 ∧ (shelf (lineIn st)).stateOf 3 = st ∧
      (shelf (lineIn st)).cardPresent 3 = true) ∧
    (Takes (cardless (lineIn .outOfService)) 3 1 ∧
      (cardless (lineIn .outOfService)).stateOf 3 = .outOfService ∧
      (cardless (lineIn .outOfService)).cardPresent 3 = false) :=
  ⟨by intro st; cases st <;> (unfold Takes; decide +kernel), by unfold Takes; decide +kernel⟩

/-- Configuration bytes with one profile index and one party entry throughout. -/
def bytes (profile code load lead : Byte) : ConfigBytes :=
  { profile := profile
    parties := Vector.replicate 4 { code := code, load := load, lead := lead } }

/-- The field checks at both sides of each bound, and the states of `witness_ServiceOrders`. -/
theorem witness_ConfigureReplacesConfiguration :
    Takes (shelf (lineIn .idle)) 3 1 ∧ Takes (shelf (lineIn .outOfService)) 3 1 ∧
    Takes (shelf (lineIn .inCall)) 3 1 ∧
    (∀ b ∈ [bytes 8 0 0 0, bytes 0 16 0 0, bytes 0 0 0 3], 7 < b.profile.toNat ∨
      ∃ p : Fin 4, 15 < b.parties[p].code.toNat ∨ 2 < b.parties[p].lead.toNat) ∧
    (∀ b ∈ [bytes 7 15 40 2, bytes 0 0 41 0, bytes 0 0 0 1], ¬(7 < b.profile.toNat ∨
      ∃ p : Fin 4, 15 < b.parties[p].code.toNat ∨ 2 < b.parties[p].lead.toNat)) := by
  unfold Takes; decide +kernel

theorem witness_ConnectAndRelease :
    ∀ st, Takes (shelf (lineIn st)) 3 1 ∧ (shelf (lineIn st)).stateOf 3 = st ∧
      1 < (2 : Byte).toNat ∧ (1 : Byte).toNat ≤ 1 ∧ (0 : Byte).toNat ≤ 1 := by
  intro st; cases st <;> (unfold Takes; decide +kernel)

theorem witness_RingRefusals :
    (∀ st, Takes (shelf (lineIn st)) 3 1 ∧ (shelf (lineIn st)).stateOf 3 = st ∧
      (shelf (lineIn st)).cardPresent 3 = true) ∧ 3 < (4 : Byte).toNat ∧
    (Takes (cardless (lineIn .outOfService)) 3 1 ∧
      (cardless (lineIn .outOfService)).cardPresent 3 = false) ∧
    (let s := shelf Line.powerOn;
      Takes s 3 1 ∧ (s.line 3).sup.parties[(0 : Fin 4)].load = 0) ∧
    (let s := { shelf (lineIn .idle) with
        control := { (shelf (lineIn .idle)).control with params := .fromZero } };
      Takes s 3 1 ∧ s.stateOf 3 = .idle ∧ (s.line 3).sup.parties[(0 : Fin 4)].load ≠ 0 ∧
        s.control.params.capacity < (s.line 3).sup.parties[(0 : Fin 4)].load) :=
  ⟨by intro st; cases st <;> (unfold Takes; decide +kernel), by unfold Takes; decide +kernel⟩

/-- It fits at the first rotation tried; with 25 RU booked in every slot but the current one, at the last;
with 25 RU in every slot, at none. -/
theorem witness_RingFromIdle :
    (let s := shelf (lineIn .idle);
      Takes s 3 1 ∧ s.stateOf 3 = .idle ∧ RingPasses s 3 0 60 0 .accepted ∧
        RingPasses s 3 3 61 3 .acceptedAdjusted ∧ s.source.state = .running ∧
        FitsAt s 3 0 (s.sched.slot + 1 + 0)) ∧
    (let s := { shelf (lineIn .idle) with sched := { (shelf (lineIn .idle)).sched with
        loads := (Vector.replicate 12 25).set 0 0 } };
      FitsAt s 3 0 (s.sched.slot + 1 + 11) ∧
        ∀ j : Fin 12, j < 11 → ¬FitsAt s 3 0 (s.sched.slot + 1 + j)) ∧
    (let s := { shelf (lineIn .idle) with sched := { (shelf (lineIn .idle)).sched with
        loads := Vector.replicate 12 25 } };
      Takes s 3 1 ∧ RingPasses s 3 0 0 0 .accepted ∧
        ∀ j : Fin 12, ¬FitsAt s 3 0 (s.sched.slot + 1 + j)) := by
  unfold Takes RingPasses FitsAt; decide +kernel

theorem witness_RingAgainChangesParty :
    (let s := ringing (booked 4 true 0 0);
      Takes s 3 1 ∧ RingPasses s 3 1 0 1 .accepted ∧ s.stateOf 3 = .ringing) ∧
    (let s := waiting 0 1 false;
      Takes s 3 1 ∧ RingPasses s 3 1 255 1 .acceptedAdjusted ∧ s.stateOf 3 = .ringWait) := by
  unfold Takes RingPasses; decide +kernel

theorem witness_StopEndsRinging :
    (∀ st, Takes (shelf (lineIn st)) 3 1 ∧ (shelf (lineIn st)).stateOf 3 = st) ∧
    ¬Busy ((ringing (booked 4 true 0 0)).line 3) ∧
    Busy ((shelf { lineIn .ringing with
      rel := { Line.powerOn.rel with pending := .operate .b } }).line 3) :=
  ⟨by intro st; cases st <;> (unfold Takes; decide +kernel), by decide +kernel⟩

theorem witness_TestOrderStartsTest :
    (∀ st, Takes (shelf (lineIn st)) 3 1 ∧ (shelf (lineIn st)).stateOf 3 = st ∧
      (shelf (lineIn st)).cardPresent 3 = true ∧
      ((shelf (lineIn st)).line 3).rel.testRelay = false) ∧
    (Takes (cardless (lineIn .outOfService)) 3 1 ∧
      (cardless (lineIn .outOfService)).cardPresent 3 = false) :=
  ⟨by intro st; cases st <;> (unfold Takes; decide +kernel), by unfold Takes; decide +kernel⟩

/-- A row of each kind, and a line whose seizure is about to be qualified: its word carries dial tone. -/
theorem witness_LineCommandsTouchOnlyTheirLine :
    lineOf (.ring 3 1 0 0) = some 3 ∧ lineOf (.testEnd 63 none) = some 63 ∧
    let s := shelf (offHook .seizing 1 4)
    lineOf (.seize 3 (some 8)) = some 3 ∧ TonesFit s ∧ Installed (s.profileOf 3) := by
  unfold Installed
  exact ⟨by decide, by decide, by decide, by decide +kernel, by decide +kernel⟩

theorem witness_SampleAdvancesIndex :
    Sampled (shelf (lineIn .idle)) 3 ∧ ¬Sampled State.reset 3 ∧
      ¬Sampled (cardless (lineIn .outOfService)) 3 := by unfold Sampled; decide +kernel

/-- A sample at the close threshold 8, between it and the open threshold 4, and at that. -/
theorem witness_RawHookHasHysteresis :
    let s := shelf (lineIn .idle)
    Installed (s.profileOf 3) ∧ (s.line 3).cls.baseline ≤ 4080 ∧ Sampled s 3 ∧ Hooked s 3 ∧
      closeAt s 3 ≤ sampleOf (some 8) ∧
      (openAt s 3 < sampleOf (some 7) ∧ sampleOf (some 7) < closeAt s 3) ∧
      (openAt s 3 < sampleOf (some 5) ∧ sampleOf (some 4) ≤ openAt s 3) ∧
      (shelf (lineIn .outOfService)).modeOf 3 = .off ∧
      (shelf (lineIn .testing)).modeOf 3 = .ignore := by
  unfold Installed Sampled Hooked; decide +kernel

theorem witness_BaselineTracksIdleSamples :
    let s := shelf (lineIn .idle)
    Sampled s 3 ∧ (s.line 3).cls.baseline ≤ 4080 := by unfold Sampled; decide +kernel

theorem witness_LearningEndsAtEighthSample :
    ∀ c ∈ [0, 6, 7], let s := shelf { lineIn .learning with
        cls := { Line.powerOn.cls with learnCount := c } }
      Sampled s 3 ∧ s.stateOf 3 = .learning ∧ (s.line 3).sup.deadline = none ∧
        (s.line 3).cls.learnCount = c := by unfold Sampled; decide +kernel

theorem witness_DebounceConfirmsAtD :
    let s := shelf (lineIn .inCall)
    Sampled s 3 ∧ Hooked s 3 := by unfold Sampled Hooked; decide +kernel

theorem witness_ConfirmedOpenStartsBreak :
    let s := shelf (offHook .seizing 1 4)
    Sampled s 3 ∧ Hooked s 3 ∧ (s.line 3).cls.confirmed = .closed ∧
      ¬ShowsClosed s 3 (sampleOf none) ∧ (s.profileOf 3).d ≤ (s.line 3).cls.runCount + 1 ∧
      runStartAt (s.line 3).cls ((s.line 3).sampleIndex + 1) = some 5 ∧
      elapsedAt 5 ((s.line 3).sampleIndex + 1) ≤ (s.profileOf 3).flMax ∧
      s.deadlineDue 3 = none := by unfold Sampled Hooked ShowsClosed; decide +kernel

/-- A break of 8 ms, a glitch, and of 10 ms, a pulse; one of 100 ms, a flash, and of 102 ms, a clear. -/
theorem witness_ConfirmedCloseEndsBreak :
    ∀ k ∈ [8, 9, 54, 55], let s := shelf (onBreak .inCall 5 (BitVec.ofNat 32 k))
      Sampled s 3 ∧ Hooked s 3 ∧ (s.line 3).cls.confirmed = .opened ∧
        ShowsClosed s 3 (sampleOf (some 8)) ∧ (s.profileOf 3).d ≤ (s.line 3).cls.runCount + 1 ∧
        runStartAt (s.line 3).cls ((s.line 3).sampleIndex + 1) =
          some (BitVec.ofNat 32 (k + 1)) ∧
        (s.line 3).cls.breakStart = some 5 ∧ Installed (s.profileOf 3) := by
  unfold Sampled Hooked ShowsClosed Installed; decide +kernel

/-- A steady make from index 1 at the sample after `k` reaches 2 (k + 1) ms. -/
theorem makeAt_offHook (st : LineState) (k : BitVec 32)
    (h : let s := shelf (offHook st 1 k)
      Sampled s 3 ∧ Installed (s.profileOf 3) ∧ Hooked s 3 ∧ ShowsClosed s 3 8) :
    MakeAt (shelf (offHook st 1 k)) 3 (sampleOf (some 8)) 1 none := by
  obtain ⟨h1, h2, h3, h4⟩ := h
  exact ⟨h1, h2, h3, h4, .inl ⟨rfl, rfl, rfl⟩⟩

/-- A close confirmed at the sample after `k` in a break from index 5, of this length. -/
theorem makeAt_onBreak (st : LineState) (k m0 : BitVec 32) (len : Nat)
    (h : let s := shelf (onBreak st 5 k)
      Sampled s 3 ∧ Installed (s.profileOf 3) ∧ Hooked s 3 ∧ ShowsClosed s 3 8 ∧
        runStartAt (s.line 3).cls ((s.line 3).sampleIndex + 1) = some (k + 1) ∧
        len = 2 * (k + 1 - 5).toNat ∧
        m0 = if (some len).any (fun L => decide (L < (s.profileOf 3).pbMin)) = true
          then (s.line 3).cls.bridge.getD (k + 1) else k + 1) :
    MakeAt (shelf (onBreak st 5 k)) 3 (sampleOf (some 8)) m0 (some len) := by
  obtain ⟨h1, h2, h3, h4, h5, h6, h7⟩ := h
  refine ⟨h1, h2, h3, h4, .inr ⟨rfl, (show Profile.fromZero.d ≤ 0 + 1 by decide), ?_⟩⟩
  unfold ClosesWith
  rw [h5]
  exact ⟨congrArg some h6, h7⟩

/-- A steady sample in a break from `k0` that has not outlasted FLmax. -/
theorem steady_open {s : State} {v : Nat} (k0 : BitVec 32) (hk : (s.line 3).cls.breakStart = some k0)
    (h : Sampled s 3 ∧ Hooked s 3 ∧ ¬ShowsClosed s 3 v ∧ (s.line 3).cls.confirmed = .opened ∧
      breakElapsed s 3 k0 ≤ (s.profileOf 3).flMax) :
    Uneventful s 3 v (steadyLine s 3) := by
  obtain ⟨h1, h2, h3, h4, h5⟩ := h
  have h6 : (s.line 3).cls.confirmed ≠ .closed := by simp [h4]
  refine .inr (.inl ⟨⟨h1, h2, ⟨fun h => absurd h h3, fun h => absurd h h6⟩, fun _ k hk' => ?_⟩, rfl,
    fun h => absurd h h6⟩)
  obtain rfl : k0 = k := Option.some.inj (hk ▸ hk')
  exact h5

/-- A steady sample of a make from `m0` that the line's state ignores. -/
theorem steady_closed {s : State} {v : Nat} (m0 : BitVec 32) (hm : (s.line 3).cls.makeStart = some m0)
    (h : Sampled s 3 ∧ Hooked s 3 ∧ ShowsClosed s 3 v ∧ (s.line 3).cls.confirmed = .closed)
    (hi : MakeIgnored s 3 m0) : Uneventful s 3 v (steadyLine s 3) := by
  obtain ⟨h1, h2, h3, h4⟩ := h
  refine .inr (.inl ⟨⟨h1, h2, ⟨fun _ => h4, fun _ => h3⟩, fun h => absurd (h4 ▸ h) (by decide)⟩, rfl,
    fun _ k hk => ?_⟩)
  obtain rfl : m0 = k := Option.some.inj (hm ▸ hk)
  exact hi

/-- A line on-hook or off-hook with no deadline: a break that stands at FLmax; a make in a call and in LOCKOUT, one
that stands below SQ, and one of 58 ms, below IDT, within a digit. -/
theorem witness_SampleAdvancesIndex_steady :
    (∀ st ∈ [LineState.idle, .inCall, .lockout, .ringWait, .dialing],
      (shelf (onBreak st 5 53)).deadlineDue 3 = none ∧
      Uneventful (shelf (onBreak st 5 53)) 3 (sampleOf none) (steadyLine (shelf (onBreak st 5 53)) 3)) ∧
    (∀ x ∈ [(LineState.inCall, 54), (.lockout, 54), (.seizing, 3), (.ringWait, 3), (.dialing, 28)],
      let l := offHook x.1 1 (BitVec.ofNat 32 x.2)
      let s := shelf { l with sup := { l.sup with pulseCount := 1 } }
      s.deadlineDue 3 = none ∧ Uneventful s 3 (sampleOf (some 8)) (steadyLine s 3)) ∧
    Uneventful (ringingWith (offHook .ringing 1 3) (booked 4 false 2 0)) 3 (sampleOf (some 8))
      (steadyLine (ringingWith (offHook .ringing 1 3) (booked 4 false 2 0)) 3) := by
  refine ⟨fun st hst => ⟨?_, steady_open 5 rfl ?_⟩, fun x hx => ⟨?_, steady_closed 1 rfl ?_ ⟨?_, ?_, ?_, ?_⟩⟩,
    steady_closed 1 rfl ?_ ⟨by decide +kernel, by decide +kernel, fun _ b hb => ?_, by decide +kernel⟩⟩
  · revert st; decide +kernel
  · revert st; unfold Sampled Hooked ShowsClosed; decide +kernel
  · revert x; decide +kernel
  · revert x; unfold Sampled Hooked ShowsClosed; decide +kernel
  · revert x; decide +kernel
  · revert x; decide +kernel
  · refine fun h => absurd h ?_
    revert x; decide +kernel
  · revert x; decide +kernel
  · unfold Sampled Hooked ShowsClosed; decide +kernel
  · obtain rfl : booked 4 false 2 0 = b := Option.some.inj (by
      rw [← hb]; decide +kernel)
    decide +kernel

/-- Line 3 in this state, in a break from index 40 whose marker holds m0 = 1. -/
def bridging (st : LineState) : Line :=
  let l := onBreak st 40 43
  { l with cls := { l.cls with bridge := some 1 } }

/-- With no deadline: a line in OUT OF SERVICE; one in the window; one that begins a run; one that confirms an
open; and one whose close after a glitch of 8 ms bridges a make of 88 ms, past IDT. -/
theorem witness_SampleAdvancesIndex_uneventful :
    (let s := shelf (lineIn .outOfService);
      s.deadlineDue 3 = none ∧ Sampled s 3 ∧ s.modeOf 3 = .off) ∧
    (∀ st ∈ [LineState.idle, .inCall, .lockout, .ringing], let l := offHook st 1 54
      let s := shelf { l with rel := { l.rel with windowEnd := some 5000000 } }
      s.deadlineDue 3 = none ∧ Sampled s 3 ∧ s.modeOf 3 = .transient) ∧
    (∀ st ∈ [LineState.idle, .inCall, .lockout, .seizing], let s := debounced 2 (shelf (onBreak st 5 8))
      s.deadlineDue 3 = none ∧ Sampled s 3 ∧ Hooked s 3 ∧
        (ShowsClosed s 3 (sampleOf (some 8)) ↔ (s.line 3).cls.confirmed = .opened) ∧
        (s.line 3).cls.runCount + 1 < (s.profileOf 3).d) ∧
    (∀ st ∈ [LineState.idle, .inCall, .lockout], let s := shelf (offHook st 1 54)
      s.deadlineDue 3 = none ∧ BreakAt s 3 (sampleOf none) 55 ∧
        breakElapsed s 3 55 ≤ (s.profileOf 3).flMax ∧ s.stateOf 3 ≠ .seizing) ∧
    ∀ st ∈ [LineState.inCall, .lockout],
      MakeAt (shelf (bridging st)) 3 (sampleOf (some 8)) 1 (some 8) ∧
      BreakIgnored (shelf (bridging st)) 3 (some 8) ∧ MakeIgnored (shelf (bridging st)) 3 1 ∧
      ((shelf (bridging st)).profileOf 3).idt ≤ makeElapsed (shelf (bridging st)) 3 1 ∧
      (shelf (bridging st)).deadlineDue 3 = none := by
  refine ⟨?_, ?_, ?_, ?_, fun st hst => ⟨⟨?_, ?_, ?_, ?_, .inr ⟨rfl, ?_, ?_⟩⟩, fun L hL => ?_,
    ⟨?_, ?_, fun h => absurd h ?_, ?_⟩, ?_, ?_⟩⟩
  · unfold Sampled; decide +kernel
  · unfold Sampled; decide +kernel
  · unfold Sampled Hooked ShowsClosed; decide +kernel
  · unfold BreakAt Sampled Hooked ShowsClosed; decide +kernel
  · revert st; unfold Sampled; decide +kernel
  · revert st; unfold Installed; decide +kernel
  · revert st; unfold Hooked; decide +kernel
  · revert st; unfold ShowsClosed; decide +kernel
  · revert st; decide +kernel
  · have h : runStartAt ((shelf (bridging st)).line 3).cls (((shelf (bridging st)).line 3).sampleIndex + 1) =
        some 44 := by revert st; decide +kernel
    unfold ClosesWith
    rw [h]
    revert st; decide +kernel
  · cases hL; revert st; unfold Calling; decide +kernel
  all_goals revert st; decide +kernel

/-- A make in SEIZING of 8 ms, below SQ, and of 10 ms, at it; a make sample in IDLE; a close confirmed in
IDLE after a glitch of 8 ms, and after a break of 102 ms, of class clear. -/
theorem witness_MakeSeizesAndQualifies :
    (MakeAt (shelf (offHook .seizing 1 3)) 3 (sampleOf (some 8)) 1 none ∧
      makeElapsed (shelf (offHook .seizing 1 3)) 3 1 = 8) ∧
    (MakeAt (shelf (offHook .seizing 1 4)) 3 (sampleOf (some 8)) 1 none ∧
      makeElapsed (shelf (offHook .seizing 1 4)) 3 1 = 10) ∧
    MakeAt (shelf (offHook .idle 1 3)) 3 (sampleOf (some 8)) 1 none ∧
    MakeAt (shelf (onBreak .idle 5 8)) 3 (sampleOf (some 8)) 9 (some 8) ∧
    MakeAt (shelf (onBreak .idle 5 55)) 3 (sampleOf (some 8)) 56 (some 102) ∧
    ((shelf (onBreak .idle 5 55)).profileOf 3).flMax < 102 ∧
    (shelf (offHook .seizing 1 3)).deadlineDue 3 = none ∧
    (shelf (onBreak .idle 5 8)).stateOf 3 = .idle ∧
    (shelf (offHook .seizing 1 4)).stateOf 3 = .seizing := by
  refine ⟨⟨makeAt_offHook _ _ ?_, ?_⟩, ⟨makeAt_offHook _ _ ?_, ?_⟩, makeAt_offHook _ _ ?_,
    makeAt_onBreak _ _ _ _ ?_, makeAt_onBreak _ _ _ _ ?_, ?_⟩ <;>
    (try unfold Sampled Installed Hooked ShowsClosed) <;> decide +kernel

/-- Breaks of 8, 10, 20, 22, 58, 60 and 100 ms: a glitch, the shortest and the longest pulse, gap and
flash, by the profile that a block of zeros loads. -/
theorem witness_FinishedBreaksCountPulses :
    MakeAt (shelf (onBreak .dialing 5 8)) 3 (sampleOf (some 8)) 9 (some 8) ∧
    MakeAt (shelf (onBreak .dialTone 5 9)) 3 (sampleOf (some 8)) 10 (some 10) ∧
    MakeAt (shelf (onBreak .dialing 5 14)) 3 (sampleOf (some 8)) 15 (some 20) ∧
    MakeAt (shelf (onBreak .dialing 5 15)) 3 (sampleOf (some 8)) 16 (some 22) ∧
    MakeAt (shelf (onBreak .dialTone 5 33)) 3 (sampleOf (some 8)) 34 (some 58) ∧
    MakeAt (shelf (onBreak .inCall 5 34)) 3 (sampleOf (some 8)) 35 (some 60) ∧
    MakeAt (shelf (onBreak .cleardown 5 54)) 3 (sampleOf (some 8)) 55 (some 100) ∧
    makeElapsed (shelf (onBreak .dialing 5 14)) 3 15 <
      ((shelf (onBreak .dialing 5 14)).profileOf 3).idt ∧
    (shelf (onBreak .dialing 5 14)).deadlineDue 3 = none ∧
    100 ≤ ((shelf (onBreak .cleardown 5 54)).profileOf 3).flMax := by
  refine ⟨makeAt_onBreak _ _ _ _ ?_, makeAt_onBreak _ _ _ _ ?_, makeAt_onBreak _ _ _ _ ?_,
    makeAt_onBreak _ _ _ _ ?_, makeAt_onBreak _ _ _ _ ?_, makeAt_onBreak _ _ _ _ ?_,
    makeAt_onBreak _ _ _ _ ?_, ?_⟩ <;>
    (try unfold Sampled Installed Hooked ShowsClosed) <;> decide +kernel

/-- The shelf with line 3 in DIALING, in a break from index 5 whose closed run began at index 10. -/
def lateClose : State :=
  let l := onBreak .dialing 5 54
  shelf { l with cls := { l.cls with runCount := 1, runStart := some 10 } }

/-- A pulse of 10 ms whose close is confirmed so late that its make has reached IDT. -/
theorem witness_FinishedBreaksCountPulses_late :
    MakeAt lateClose 3 (sampleOf (some 8)) 10 (some 10) ∧
      (lateClose.profileOf 3).idt ≤ makeElapsed lateClose 3 10 := by
  refine ⟨⟨?_, ?_, ?_, ?_, .inr ⟨rfl, by decide +kernel, ?_⟩⟩, by decide +kernel⟩
  · unfold Sampled; decide +kernel
  · unfold Installed; decide +kernel
  · unfold Hooked; decide +kernel
  · unfold ShowsClosed; decide +kernel
  · have h : runStartAt (lateClose.line 3).cls ((lateClose.line 3).sampleIndex + 1) = some 10 := by
      decide +kernel
    unfold ClosesWith
    rw [h]
    decide +kernel

/-- A make of 60 ms, at IDT. -/
theorem witness_MakeReachingIdtEndsDigit :
    MakeAt (shelf (offHook .dialing 1 29)) 3 (sampleOf (some 8)) 1 none ∧
    (shelf (offHook .dialing 1 29)).stateOf 3 = .dialing ∧
    ((shelf (offHook .dialing 1 29)).profileOf 3).idt ≤
      makeElapsed (shelf (offHook .dialing 1 29)) 3 1 := by
  refine ⟨makeAt_offHook _ _ ?_, ?_⟩ <;>
    (try unfold Sampled Installed Hooked ShowsClosed) <;> decide +kernel

/-- Line 3 off-hook in the state that keeps this deadline, which names 1,000 ms plus `later`. -/
def timed (kind : DeadlineKind) (later : BitVec 32) : State :=
  let l := offHook (keeperOf kind) 1 3
  shelf { l with sup := { l.sup with deadline := some (kind, 1000 + later) } }

/-- Each deadline at its very time, and with a millisecond to run. -/
theorem witness_DeadlinesExpire (kind : DeadlineKind) :
    Steady (timed kind 0) 3 (sampleOf (some 8)) ∧ (timed kind 0).stateOf 3 = keeperOf kind ∧
    ((timed kind 0).line 3).sup.deadline = some (kind, 1000) ∧
    (((timed kind 0).line 3).sup.pulseCount = 0 ∧ ((timed kind 0).line 3).sup.errorSkip = false) ∧
    (BitVec.ofNat 32 (timed kind 0).shelfTime - 1000).toNat < 2 ^ 31 ∧
    ((timed kind 1).line 3).sup.deadline = some (kind, 1001) ∧
    2 ^ 31 ≤ (BitVec.ofNat 32 (timed kind 1).shelfTime - 1001).toNat ∧
    ((timed kind 0).line 3).cls.makeStart = some 1 ∧ MakeIgnored (timed kind 0) 3 1 := by
  refine ⟨⟨?_, ?_, ?_, fun h => absurd h ?_⟩, ?_, ?_, ?_, ?_, ?_, ?_, ?_, ?_, ?_, fun h => absurd h ?_, ?_⟩ <;>
    cases kind <;> (try unfold Sampled) <;> (try unfold Hooked) <;> (try unfold ShowsClosed) <;>
    decide +kernel

/-- The shelf with this line 3, its deadline of this kind at this very time; every profile with this D. -/
def dated (kind : DeadlineKind) (d : Nat) (l : Line) : State :=
  debounced d (shelf { l with sup := { l.sup with deadline := some (kind, 1000) } })

/-- Such a line keeps its deadline, due, in its state, with no digit in progress. -/
def DatedIn (kind : DeadlineKind) (s : State) : Prop :=
  (s.line 3).sup.deadline = some (kind, 1000) ∧ s.stateOf 3 = keeperOf kind ∧
    (s.line 3).sup.pulseCount = 0 ∧ (s.line 3).sup.errorSkip = false ∧
    (BitVec.ofNat 32 s.shelfTime - 1000).toNat < 2 ^ 31

/-- A deadline is due at a sample in the window, at one that begins a run, and at one that confirms an open. -/
theorem witness_DeadlinesExpire_uneventful (kind : DeadlineKind) :
    (let l := offHook (keeperOf kind) 1 3;
      let s := dated kind 1 { l with rel := { l.rel with windowEnd := some 5000000 } };
      DatedIn kind s ∧ Sampled s 3 ∧ s.modeOf 3 = .transient) ∧
    (let s := dated kind 2 (offHook (keeperOf kind) 1 3);
      DatedIn kind s ∧ Sampled s 3 ∧ Hooked s 3 ∧
        (ShowsClosed s 3 (sampleOf none) ↔ (s.line 3).cls.confirmed = .opened) ∧
        (s.line 3).cls.runCount + 1 < (s.profileOf 3).d) ∧
    (let s := dated kind 1 (offHook (keeperOf kind) 1 3);
      DatedIn kind s ∧ BreakAt s 3 (sampleOf none) 4 ∧
        breakElapsed s 3 4 ≤ (s.profileOf 3).flMax) := by
  unfold DatedIn BreakAt Sampled Hooked ShowsClosed
  cases kind <;> exact ⟨by decide +kernel, by decide +kernel, by decide +kernel⟩

/-- A close confirmed in a break from index 5, of this length, on a line with a deadline. -/
theorem makeAt_dated (kind : DeadlineKind) (st : LineState) (k m0 : BitVec 32) (len : Nat)
    (h : let s := dated kind 1 (onBreak st 5 k)
      Sampled s 3 ∧ Installed (s.profileOf 3) ∧ Hooked s 3 ∧ ShowsClosed s 3 8 ∧
        (s.profileOf 3).d ≤ (s.line 3).cls.runCount + 1 ∧
        runStartAt (s.line 3).cls ((s.line 3).sampleIndex + 1) = some (k + 1) ∧
        len = 2 * (k + 1 - 5).toNat ∧
        m0 = if (some len).any (fun L => decide (L < (s.profileOf 3).pbMin)) = true
          then (s.line 3).cls.bridge.getD (k + 1) else k + 1) :
    MakeAt (dated kind 1 (onBreak st 5 k)) 3 (sampleOf (some 8)) m0 (some len) := by
  obtain ⟨h1, h2, h3, h4, h0, h5, h6, h7⟩ := h
  refine ⟨h1, h2, h3, h4, .inr ⟨rfl, h0, ?_⟩⟩
  unfold ClosesWith
  rw [h5]
  exact ⟨congrArg some h6, h7⟩

/-- In a break from index 5 too a line keeps its deadline. -/
theorem datedIn_onBreak (kind : DeadlineKind) (k : BitVec 32) :
    DatedIn kind (dated kind 1 (onBreak (keeperOf kind) 5 k)) :=
  ⟨rfl, rfl, rfl, rfl, show (BitVec.ofNat 32 1000 - 1000).toNat < 2 ^ 31 by decide⟩

/-- A deadline is due at a close after a glitch of 8 ms, which every state with a deadline ignores. -/
theorem witness_DeadlinesExpire_glitch (kind : DeadlineKind) :
    DatedIn kind (dated kind 1 (onBreak (keeperOf kind) 5 8)) ∧
    MakeAt (dated kind 1 (onBreak (keeperOf kind) 5 8)) 3 (sampleOf (some 8)) 9 (some 8) ∧
    BreakIgnored (dated kind 1 (onBreak (keeperOf kind) 5 8)) 3 (some 8) ∧
    MakeIgnored (dated kind 1 (onBreak (keeperOf kind) 5 8)) 3 9 := by
  refine ⟨datedIn_onBreak kind 8, makeAt_dated _ _ _ _ _ ?_, fun L hL => ?_, ?_, ?_, fun h => absurd h ?_, ?_⟩
  · unfold Sampled Installed Hooked ShowsClosed; cases kind <;> decide +kernel
  · cases hL; unfold Calling; cases kind <;> decide +kernel
  all_goals cases kind <;> decide +kernel

/-- A deadline is due at an item that clears or replaces it: a break of 102 ms, in each state, and a close after
one; a pulse of 10 ms in DIAL TONE, and a flash of 100 ms in DIALING. -/
theorem witness_DeadlinesExpire_item (kind : DeadlineKind) :
    let s (k : BitVec 32) := dated kind 1 (onBreak (keeperOf kind) 5 k)
    (∀ k, DatedIn kind (s k)) ∧ ItemMovesDeadline (s 54) 3 (sampleOf none) ∧
      ItemMovesDeadline (s 55) 3 (sampleOf (some 8)) ∧
      (kind = .fdt → ItemMovesDeadline (s 9) 3 (sampleOf (some 8))) ∧
      (kind = .pdt → ItemMovesDeadline (s 54) 3 (sampleOf (some 8))) := by
  refine ⟨datedIn_onBreak kind, .inl ⟨5, ?_⟩, .inr ⟨56, 102, makeAt_dated _ _ _ _ _ ?_, .inl ?_⟩,
    fun h => .inr ⟨10, 10, makeAt_dated _ _ _ _ _ ?_, .inr (.inl ?_)⟩,
    fun h => .inr ⟨55, 100, makeAt_dated _ _ _ _ _ ?_, .inr (.inr ?_)⟩⟩
  · unfold BreakAt Sampled Hooked ShowsClosed; cases kind <;> decide +kernel
  all_goals
    try unfold Sampled Installed Hooked ShowsClosed
    try subst h
    try cases kind
    all_goals decide +kernel

/-- The shelf with line 3 in a run of one raw-open sample from index 5, its next sample 54 or more on: samples in
the ring-transient window come between. -/
def lateOpen (st : LineState) : State :=
  let l := offHook st 1 54
  debounced 2 (shelf { l with cls := { l.cls with raw := .opened, runCount := 1, runStart := some 5 } })

/-- The first sample past FLmax, 102 ms after the break began, in a break and at the confirmed open itself. -/
theorem witness_LongBreakIsClear :
    (∀ st ∈ [LineState.dialTone, .dialing, .inCall, .cleardown, .howler, .lockout, .idle, .ringWait],
      let s := shelf (onBreak st 5 54)
      BreakAt s 3 (sampleOf none) 5 ∧ breakElapsed s 3 5 = (s.profileOf 3).flMax + 2 ∧
        s.deadlineDue 3 = none ∧ s.stateOf 3 = st) ∧
    (∀ st ∈ [LineState.seizing, .inCall], BreakAt (lateOpen st) 3 (sampleOf none) 5 ∧
      breakElapsed (lateOpen st) 3 5 = ((lateOpen st).profileOf 3).flMax + 2) := by
  unfold BreakAt Sampled Hooked ShowsClosed
  exact ⟨by decide +kernel, by decide +kernel⟩

/-- A close that finishes a break of 102 ms, of class clear, in each state that acts on it. -/
theorem witness_LongBreakIsClear_close :
    ∀ st ∈ [LineState.dialTone, .dialing, .inCall, .cleardown, .howler, .lockout],
      MakeAt (shelf (onBreak st 5 55)) 3 (sampleOf (some 8)) 56 (some 102) ∧
        Calling (shelf (onBreak st 5 55)) 3 ∧
        ((shelf (onBreak st 5 55)).profileOf 3).flMax < 102 := by
  refine fun st hst => ⟨makeAt_onBreak _ _ _ _ ?_, ?_, ?_⟩ <;> revert st <;>
    (try unfold Sampled Installed Hooked ShowsClosed) <;> (try unfold Calling) <;> decide +kernel

/-- A make of 8 ms, and of 10 ms at SQ, in RINGING before and after the first burst, and in RING WAIT. -/
theorem witness_MakeAnswersTheRing :
    (∀ k ∈ [3, 4], ∀ f : Bool, MakeAt (ringingWith (offHook .ringing 1 (BitVec.ofNat 32 k)) (booked 4 f 2 0))
        3 (sampleOf (some 8)) 1 none ∧
      (ringingWith (offHook .ringing 1 (BitVec.ofNat 32 k)) (booked 4 f 2 0)).bookingOf 3 =
        some (booked 4 f 2 0)) ∧
    MakeAt (shelf (offHook .ringWait 1 4)) 3 (sampleOf (some 8)) 1 none ∧
    MakeAt (shelf (onBreak .ringWait 5 55)) 3 (sampleOf (some 8)) 56 (some 102) ∧
    (shelf (onBreak .ringWait 5 55)).deadlineDue 3 = none := by
  refine ⟨fun k hk f => ⟨⟨?_, ?_, ?_, ?_, .inl ⟨rfl, rfl, rfl⟩⟩, ?_⟩, makeAt_offHook _ _ ?_,
    makeAt_onBreak _ _ _ _ ?_, ?_⟩
  · revert k f; unfold Sampled; decide +kernel
  · revert k f; unfold Installed; decide +kernel
  · revert k f; unfold Hooked; decide +kernel
  · revert k f; unfold ShowsClosed; decide +kernel
  · revert k f; decide +kernel
  · unfold Sampled Installed Hooked ShowsClosed; decide +kernel
  · unfold Sampled Installed Hooked ShowsClosed; decide +kernel
  · decide +kernel

/-- In a burst the trip threshold is 16: a sample at it, and one below. -/
theorem witness_TripStartsGuard :
    let l := lineIn .ringing
    let s := ringingWith { l with rel := { l.rel with ringRelay := some .b } } (booked 4 true 2 0)
    s.bookingOf 3 = some (booked 4 true 2 0) ∧ Sampled s 3 ∧ s.modeOf 3 = .burst ∧
      s.deadlineDue 3 = none ∧ sampleOf (some 15) < tripAt s 3 ∧ tripAt s 3 ≤ sampleOf (some 16) ∧
      (s.profileOf 3).tripConfirm ≤ (s.line 3).cls.tripCount + 1 := by
  unfold Sampled; decide +kernel

/-- The shelf with line 3 in RING GUARD on this guard record. -/
def guarded (e : Option Instant) (target : ExitTarget) : State :=
  let l := lineIn .ringGuard
  shelf { l with sup := { l.sup with
    guardRecord := some { guardEnd := e, target := target } } }

/-- The guard end is clear, just reached, and a quarter microsecond away. -/
theorem witness_GuardEndsTowardTarget :
    ∀ e ∈ [none, some 4000375, some 4000376],
      ∀ target ∈ [ExitTarget.inCall, .idle, .ringWait .noRoom 0 2,
          .ringWait (.evicted { time := 1000, rank := 1 }) 0 2],
        let s := guarded e target
        (s.line 3).sup.guardRecord = some { guardEnd := e, target := target } ∧ Sampled s 3 ∧
          s.stateOf 3 = .ringGuard ∧ s.deadlineDue 3 = none ∧ s.arrivalInstant 3 = 4000375 := by
  unfold Sampled; decide +kernel

/-- Settling with a quarter microsecond left, and measuring the seventh and the eighth sample. -/
theorem witness_TestMeasuresEightSamples :
    ∀ x ∈ [TestRecord.mk 4000376 0 0, TestRecord.mk 4000375 6 60, TestRecord.mk 4000375 7 70],
      let l := lineIn .testing
      let s := shelf { l with rel := { l.rel with testRelay := true, test := some x } }
      (s.line 3).rel.test = some x ∧ Sampled s 3 ∧ s.stateOf 3 = .testing ∧
        s.deadlineDue 3 = none ∧ s.arrivalInstant 3 = 4000375 := by
  unfold Sampled; decide +kernel

/-- The shelf with card slot 0 as given. -/
def slotted (l : Line) (k : CardSlot) : State := { shelf l with slots := (shelf l).slots.set 0 k }

theorem witness_PresenceFollowsInputs :
    (slotted (lineIn .idle) ⟨false, .present, some 1000⟩).slots[(0 : CardNo)].deadline = some 1000 ∧
    1000 ≤ (shelf (lineIn .idle)).shelfTime ∧
    (slotted (lineIn .idle) ⟨false, .present, some 1000⟩).slots[(0 : CardNo)].presence = .present ∧
    (slotted (lineIn .outOfService) ⟨true, .absent, some 1000⟩).slots[(0 : CardNo)].presence = .absent ∧
    (shelf (lineIn .idle)).slots[(0 : CardNo)].deadline = none ∧
    ¬1001 ≤ (shelf (lineIn .idle)).shelfTime := by decide +kernel

theorem witness_CardLostEndsItsLines :
    let s := slotted (lineIn .testing) ⟨false, .present, some 1000⟩
    s.slots[(0 : CardNo)].presence = .present ∧ s.slots[(0 : CardNo)].deadline = some 1000 ∧
      1000 ≤ s.shelfTime := by decide +kernel

theorem witness_CardBackReportsAndReleases :
    let s := slotted (lineIn .outOfService) ⟨true, .absent, some 1000⟩
    s.slots[(0 : CardNo)].presence = .absent ∧ AbsentLinesOut s ∧
      s.slots[(0 : CardNo)].deadline = some 1000 ∧ 1000 ≤ s.shelfTime := by decide +kernel

/-- The shelf with line 3 RINGING on this booking, within slot 11, and a block of zeros whose generation has
changed: its capacity of 0 evicts. -/
def reloading (b : Booking) : State :=
  let s := ringing b
  { s with
    port := { s.port with mem := Memory.write [] 0x100 7 }
    sched := { s.sched with slot := 11 } }

/-- A booking whose first burst is at this boundary; and one that a reload evicts, here at rotation 1, and at
rotation 0 with its first burst to come. -/
theorem witness_SlotBoundaryRequestsRelays :
    (let s := ringing (booked 1 false 0 0);
      s.sched.nextBoundary = some 1000 ∧ Boundary s (s.sched.slot + 1) 1000 ∧ s.sched.slot + 1 ≠ 0 ∧
        NoFrameEnds s (s.sched.slot + 1) ∧ (s.sched.bookings.map Booking.line).Nodup ∧
        s.sched.waits = []) ∧
    ∀ b ∈ [booked 1 true 0 0, booked 0 false 0 0], let s := reloading b
      Boundary s 0 1000 ∧ NoFrameEnds s 0 ∧ ListsMatchStates s ∧ LoadsMatch s ∧ TonesFit s ∧
        s.readByte 0x100 ≠ s.control.generationTaken := by
  unfold Boundary NoFrameEnds; decide +kernel

/-- The frame end that reaches max frames 2, the one before it, and one of an unlimited booking; one at
rotation 0 without a reload; and one with a pending change of each origin. -/
theorem witness_FrameEndCountsAndLimits :
    (∀ b ∈ [booked 1 true 1 2, booked 1 true 0 2, booked 1 true 60 0],
      let s := ringing b
      s.bookingOf 3 = some b ∧ s.sched.nextBoundary = some 1000 ∧ Boundary s b.rotation 1000 ∧
        b.firstBurst = true ∧ ListsMatchStates s ∧ b.change = none ∧ b.rotation ≠ 0) ∧
    (let r := ringing (booked 0 true 0 2);
      let s := { r with sched := { r.sched with slot := 11 } };
      Boundary s 0 1000 ∧ ListsMatchStates s ∧ s.readByte 0x100 = s.control.generationTaken) ∧
    ∀ origin ∈ [ChangeOrigin.order, .reload],
      let b := { booked 1 true 0 2 with
        change := some { party := 1, maxFrames := 2, origin := origin } }
      let s := ringing b
      Boundary s 1 1000 ∧ ListsMatchStates s ∧ LoadsMatch s ∧ TonesFit s := by
  unfold Boundary
  exact ⟨by decide +kernel, by decide +kernel, by decide +kernel⟩

/-- The count that reaches the wait limit 1 of a block of zeros; and, with a wait limit of 3, one that does
not, without a source and with one RUNNING. -/
theorem witness_FrameBoundaryCountsWaits :
    (let s := waiting 11 0 false;
      (s.waitOf 3).isSome = true ∧ s.sched.nextBoundary = some 1000 ∧ Boundary s 0 1000 ∧
        ListsMatchStates s ∧ s.control.params.waitLimit ≤ 0 + 1) ∧
    (let w := waiting 11 1 false;
      let s := { w with
        source := { w.source with state := .failed }
        control := { w.control with params := { w.control.params with waitLimit := 3 } } };
      Boundary s 0 1000 ∧ ListsMatchStates s ∧ 1 + 1 < s.control.params.waitLimit ∧
        s.source.state ≠ .running ∧ s.sched.bookings = [] ∧
        s.readByte 0x100 = s.control.generationTaken) ∧
    (let s := waiting 11 1 false;
      Boundary s 0 1000 ∧ NoFrameEnds s 0 ∧ ListsMatchStates s ∧ TonesFit s ∧
        s.source.state = .running ∧ s.readByte 0x100 = s.control.generationTaken) := by
  unfold Boundary NoFrameEnds
  exact ⟨by decide +kernel, by decide +kernel, by decide +kernel⟩

/-- The head fits at once; it fits only at the last rotation; it fits nowhere and blocks. -/
theorem witness_WalkServesHead :
    (let s := waiting 0 1 true;
      (s.sched.waits.head?.map WaitEntry.line) = some 3 ∧ s.sched.nextBoundary = some 1000 ∧
        Boundary s 1 1000 ∧ NoFrameEnds s 1 ∧ ListsMatchStates s ∧ TonesFit s ∧
        s.source.state = .running ∧
        FitsAt s 3 0 (1 + 0)) ∧
    (let w := waiting 0 1 true;
      let s := { w with sched := { w.sched with loads := (Vector.replicate 12 25).set 0 0 } };
      FitsAt s 3 0 (1 + 11) ∧ ∀ j : Fin 12, j < 11 → ¬FitsAt s 3 0 (1 + j)) ∧
    (let w := waiting 0 1 true;
      let s := { w with sched := { w.sched with loads := Vector.replicate 12 25 } };
      ∀ j : Fin 12, ¬FitsAt s 3 0 (1 + j)) := by
  unfold Boundary NoFrameEnds FitsAt; decide +kernel

/-- The shelf with the source as given, its last crossing `t` quarter microseconds before 1,000 ms. -/
def sourced (st : SourceState) (count t : Nat) : State :=
  { shelf (lineIn .idle) with
    source := { state := st, goodCount := count, lastCrossing := some (4000000 - t)
                lossDeadline := some 4000000 } }

/-- With H = 5 ms: spacings of 2.5 ms and 10 ms are good, a quarter microsecond less or more is not. -/
theorem witness_CrossingQualifiesSource :
    State.reset.control.shelf = .halted ∧
    (∀ t ∈ [10000, 40000], let s := sourced .qualifying 7 t
      s.control.shelf ≠ .halted ∧ s.source.state = .qualifying ∧
        s.source.lastCrossing = some (4000000 - t) ∧
        (s.control.params.halfPeriod * 4000 ≤ 2 * t ∧ t ≤ 2 * (s.control.params.halfPeriod * 4000))) ∧
    (∀ t ∈ [9999, 40001], let s := sourced .qualifying 6 t
      ¬(s.control.params.halfPeriod * 4000 ≤ 2 * t ∧
        t ≤ 2 * (s.control.params.halfPeriod * 4000))) ∧
    (shelf (lineIn .idle)).source.state = .running := by decide +kernel

/-- The deadline is just reached, in QUALIFYING and in RUNNING; it is a quarter microsecond away. -/
theorem witness_LossDeadlineFailsSource :
    (let s := sourced .qualifying 3 8;
      s.source.lossDeadline = some 4000000 ∧ 4000000 ≤ s.shelfTime * 4000 + (0 : Fin 1000).val * 4) ∧
    (let s := { ringing (booked 4 true 1 0) with source := (sourced .running 8 8).source };
      s.source.lossDeadline = some 4000000 ∧ s.source.state = .running ∧ ListsMatchStates s) ∧
    ¬4000001 ≤ (shelf (lineIn .idle)).shelfTime * 4000 + (0 : Fin 1000).val * 4 := by decide +kernel

/-- A pending count of 8, of 9 and of 7. -/
theorem witness_AppendWritesDropsOrFaults :
    ∀ k ∈ [({ Line.powerOn.rep with written := 8 } : Reckoning),
        { Line.powerOn.rep with written := 9 }, { Line.powerOn.rep with written := 255, taken := 248 }],
      (k.written.toNat + 256 - k.taken.toNat) % 256 ∈ [7, 8, 9] := by decide +kernel

/-- A law of an option that evaluates to true holds of its value. -/
theorem of_all {α : Type} {p : α → Prop} [DecidablePred p] {o : Option α}
    (h : o.all (fun a => decide (p a)) = true) : ∀ a ∈ o, p a := by
  intro a ha
  cases ha
  simpa using h

/-- A line RINGING with its first burst to come. -/
theorem witness_StepKeepsRingLists :
    RingListsConsistent { ringing (booked 1 false 0 0) with pending := [.slotBoundary] } := by
  unfold RingListsConsistent; decide +kernel

theorem witness_StepKeepsRelays :
    let s := { ringing (booked 1 false 0 0) with pending := [.slotBoundary] }
    RingListsConsistent s ∧ RelaysConsistent s := by
  refine ⟨by unfold RingListsConsistent; decide +kernel, by decide +kernel, by decide +kernel,
    by decide +kernel, fun n => of_all ?_, by decide +kernel, by decide +kernel, by decide +kernel⟩
  revert n; decide +kernel

/-- A line in HOWLER whose deadline is reached. -/
theorem witness_StepKeepsDialing :
    DialingConsistent { timed .how 0 with pending := [.howExpiry 3 (some 8)] } := by
  refine ⟨fun n => of_all ?_, by decide +kernel, by decide +kernel⟩
  revert n; decide +kernel

theorem witness_StepKeepsShelf :
    let s := { sourced .qualifying 7 20000 with pending := [.sourceQualified 0] }
    RingListsConsistent s ∧ ShelfConsistent s :=
  ⟨by unfold RingListsConsistent; decide +kernel,
    by decide +kernel, by decide +kernel, by decide +kernel, by decide +kernel, of_all (by decide)⟩

/-- The values are in range where the parts that they are read from are as in these small states. -/
theorem valuesInRange_of {s : State} (hm : MemoryCanonical s)
    (hp : s.control.params = { Params.fromZero with capacity := 30 }) (hc : ClassifierInRange s) :
    ValuesInRange s := by
  refine ⟨hm, ?_, hc⟩
  unfold ParamsInRange
  rw [hp]
  refine ⟨by unfold GeneralInRange; decide +kernel, fun i => ⟨?_, ?_⟩, by decide +kernel⟩
  · revert i; unfold FieldsInRange; decide +kernel
  · revert i; unfold Installed; decide +kernel

theorem witness_StepKeepsRanges :
    ValuesInRange { posted 1 0 0 with pending := [.orderIntakeVisit 0 [] []] } :=
  valuesInRange_of (by decide +kernel) rfl (by decide +kernel)

/-- Line 3 with a booking that has rung 5 frames, with a wait entry that has waited 7, and with neither. -/
theorem witness_ShelfTimeAdvancesByOne :
    ∀ s ∈ [ringing (booked 4 true 5 0), waiting 2 7 true, shelf (lineIn .idle)],
      RingListsConsistent s ∧ ValuesInRange s := by
  refine fun s hs => ⟨?_, valuesInRange_of ?_ ?_ ?_⟩
  · revert s; unfold RingListsConsistent; decide +kernel
  all_goals revert s; decide +kernel

/-! ### Worked examples -/

/-- R15, R21: a block of zeros loads as the working parameters of power-on. -/
theorem load_zero : State.reset.loadedParams = Params.fromZero := by decide +kernel

/-- R20, last paragraph: a write of the generation that lands before its word is read is taken, and one of the
capacity that lands after waits, though it is stored. -/
theorem load_meets_writes :
    let t := after (.run true [⟨0x80, 5, true, false⟩] [⟨0x81, 90, true, true⟩]) State.reset
    t.control.generationTaken = 5 ∧ t.control.params.capacity = 0 ∧ t.hostWord 0x102 = 90 := by
  decide +kernel

/-- R89: on 6, off 0, twice, is *on* at all twelve marks (section 8, the wait-limit example's code 2). -/
theorem compile_full :
    RawCode.compile { count := 2, pairs := [(6, 0), (6, 0), (0, 0), (0, 0)] } =
      Vector.replicate 12 true := by decide

/-- R89: on 2, off 1, on 1, off 8 is *on* at marks 0, 1 and 3 (the trip example's code 1). -/
theorem compile_two_bursts :
    (RawCode.compile { count := 2, pairs := [(2, 1), (1, 8), (0, 0), (0, 0)] }).toList =
      [true, true, false, true, false, false, false, false, false, false, false, false] := by decide

/-- R97: an order taken in slot c books at c + 1 first, with detail 1. -/
theorem ring_books_next_slot :
    ((after (.ring 3 1 0 0) (shelf (lineIn .idle))).line 3).rep.entries[1] =
      { kind := 9, detail := 1, value := 1, time := 1000, droppedBefore := 0, stateAfter := 11 } := by
  decide +kernel

/-- R73: a make that reaches SQ reports SEIZE and leaves the line in DIAL TONE. -/
theorem seize_reports :
    ((after (.seize 3 (some 8)) (shelf (offHook .seizing 1 4))).line 3).rep.entries[0] =
      { kind := 1, detail := 0, value := 0, time := 1000, droppedBefore := 0, stateAfter := 4 } := by
  decide +kernel

/-- R131: the same sample sends one word, with dial tone. -/
theorem seize_sends_dial_tone :
    (after (.seize 3 (some 8)) (shelf (offHook .seizing 1 4))).sent.head? =
      some { line := 3, setting := { ringRelay := none, tone := .dial, testRelay := false } } := by
  decide +kernel

/-- R56, R79: a close after a break of 102 ms, with FLmax 100, clears a call to IDLE (log 21). -/
theorem close_of_clear_ends_call :
    let t := after (.confirmedClose 3 (some 8)) (shelf (onBreak .inCall 5 55))
    t.stateOf 3 = .idle ∧ (t.line 3).cls.confirmed = .closed ∧ (t.line 3).rep.entries[0] =
      { kind := 5, detail := 0, value := 6, time := 1000, droppedBefore := 0, stateAfter := 2 } := by
  decide +kernel

/-- R101: a reload to a capacity of 0 evicts a booking; its relay released, its line waits, with detail
EVICTED and position 1. -/
theorem reload_evicts :
    let t := after .slotBoundary (reloading (booked 1 true 0 0))
    t.sched.bookings = [] ∧ (t.line 3).rep.entries[0] =
      { kind := 8, detail := 3, value := 1, time := 1000, droppedBefore := 0, stateAfter := 10 } := by
  decide +kernel

/-- R111, R114: a frame end with a pending change books the party anew at its old rotation, with detail 0. -/
theorem change_readmits :
    let b := { booked 1 true 0 2 with change := some { party := 1, maxFrames := 2, origin := .order } }
    ((after .slotBoundary (ringing b)).line 3).rep.entries[0] =
      { kind := 9, detail := 0, value := 1, time := 1000, droppedBefore := 0, stateAfter := 11 } := by
  decide +kernel

/-- R112, R129: at the boundary of its rotation a booking's relay is asked to operate on its lead. -/
theorem boundary_asks_operate :
    ((after .slotBoundary (ringing (booked 1 false 0 0))).line 3).rel.pending = .operate .b := by
  decide +kernel

/-- R126: a failure moves the booking to the head of the wait list, at position 1. -/
theorem failure_queues :
    ((after (.lossDeadlineExpiry 0)
      { ringing (booked 4 true 1 0) with source := (sourced .running 8 8).source }).line 3).rep.entries[0] =
      { kind := 8, detail := 2, value := 1, time := 1000, droppedBefore := 0, stateAfter := 10 } := by
  decide +kernel

/-- Layouts: line 3, RINGING on a booking at rotation 4 with 5 frames rung, shows its state, confirmed hook and
ring entry, and the header its slot load of 10 RU and the counts. -/
theorem ringing_line_shows :
    let s := ringing (booked 4 true 5 0)
    ([0x9A0, 0x9A1, 0x9A9, 0x9AA, 0x9AB, 0x9AC, 0x9AD, 0x0C, 0x0D, 0x29, 0x2A].map s.readByte) =
      [11, 0, 0, 4, 5, 0, 0, 10, 0, 1, 0] := by decide +kernel

/-- R10, R3: a visit in HALTED reads line 0's taken count, and a write of it that lands after is stored (log 9). -/
theorem halted_visit_meets_write :
    let t := after (.orderIntakeVisit 0 [⟨0x40C, 5, true, false⟩] []) State.reset
    (t.line 0).rep.taken = 0 ∧ t.readByte 0x818 = 5 ∧ t.visitPointer = 1 := by decide +kernel

/-- R2: a write to a part-owned word is discarded and marked; one to the parameter block is stored. -/
theorem write_owned :
    (after (.workMemoryWrite ⟨0x410, 0x1234, true, true⟩) State.reset).port.writeDiscarded = true ∧
    (after (.workMemoryWrite ⟨0x081, 0x1234, true, true⟩) State.reset).readByte 0x102 = 0x34 ∧
    (after (.workMemoryWrite ⟨0x081, 0x1234, true, true⟩) State.reset).readByte 0x103 = 0x12 := by
  decide +kernel

end Sys2Proof.Tests
end

section
/-! PROOFS. What an operation of one line does to the part, said once for each operation of the model: which
line and which ring entries it touches, which relay words it sends, and what it keeps of that line. -/

namespace Sys2Proof.Machine

open Sys2Proof.Safety

/-! ### What an operation keeps of a line -/

/-- R35: the classifier's values are in their ranges. -/
def Classifier.InRange (c : Classifier) : Prop :=
  c.baseline ≤ 4080 ∧ c.runCount ≤ 4 ∧ c.tripCount ≤ 8 ∧ c.learnCount ≤ 8 ∧ c.learnMin ≤ 255

/-- R35, R43: one line's share of `ClassifierInRange`. -/
def Line.InRange (l : Line) : Prop :=
  l.cls.InRange ∧ (l.sup.state = .learning → l.cls.learnCount < 8)

theorem classifierInRange_iff {s : State} : ClassifierInRange s ↔ ∀ n, (s.line n).InRange := by
  simp only [ClassifierInRange, Line.InRange, Classifier.InRange, and_assoc, State.stateOf]

/-- A line whose classifier is in range is in range in every state but LEARNING. -/
theorem Line.inRange_of_not_learning {l : Line} (hc : l.cls.InRange) (hs : l.sup.state ≠ .learning) :
    l.InRange := ⟨hc, fun h => absurd h hs⟩

/-- The attention bit of a line is not lost, and its classifier stays in range. -/
structure Line.Keeps (l l' : Line) : Prop where
  attention : l.rep.attention = true → l'.rep.attention = true
  range : l.InRange → l'.InRange

theorem Line.Keeps.refl (l : Line) : l.Keeps l := ⟨id, id⟩

theorem Line.Keeps.trans {l l' l'' : Line} (h : l.Keeps l') (h' : l'.Keeps l'') : l.Keeps l'' :=
  ⟨h'.attention ∘ h.attention, h'.range ∘ h.range⟩

/-- The values that the classifier counts stand or fall, and the learning minimum stands or is the greatest
byte: what every operation but a sample's stage 2 and the baseline update does. -/
structure Classifier.Settles (c c' : Classifier) : Prop where
  baseline : c'.baseline ≤ c.baseline
  runCount : c'.runCount ≤ c.runCount
  tripCount : c'.tripCount ≤ c.tripCount
  learnCount : c'.learnCount ≤ c.learnCount
  learnMin : c'.learnMin = c.learnMin ∨ c'.learnMin = 255

theorem Classifier.Settles.refl (c : Classifier) : c.Settles c :=
  ⟨le_rfl, le_rfl, le_rfl, le_rfl, .inl rfl⟩

theorem Classifier.Settles.inRange {c c' : Classifier} (h : c.Settles c') (hc : c.InRange) :
    c'.InRange := by
  obtain ⟨hb, hr, ht, hl, hm⟩ := h
  obtain ⟨kb, kr, kt, kl, km⟩ := hc
  exact ⟨by omega, by omega, by omega, by omega, by omega⟩

theorem Classifier.settles_relayReleased (c : Classifier) : c.Settles c.relayReleased :=
  ⟨le_rfl, le_rfl, Nat.zero_le _, le_rfl, .inl rfl⟩

theorem Classifier.settles_relayOperated (c : Classifier) : c.Settles c.relayOperated :=
  ⟨le_rfl, Nat.zero_le _, le_rfl, le_rfl, .inl rfl⟩

theorem Classifier.settles_leaveIgnore (c : Classifier) (k : BitVec 32) : c.Settles (c.leaveIgnore k) :=
  ⟨le_rfl, Nat.zero_le _, le_rfl, le_rfl, .inl rfl⟩

theorem Classifier.settles_interrupted (c : Classifier) : c.Settles c.interrupted :=
  ⟨le_rfl, Nat.zero_le _, Nat.zero_le _, Nat.zero_le _, .inr rfl⟩

theorem Classifier.settles_startLearning (c : Classifier) : c.Settles c.startLearning :=
  ⟨le_rfl, Nat.zero_le _, Nat.zero_le _, Nat.zero_le _, .inr rfl⟩

/-- An operation that leaves the report reckoning, settles the classifier and does not lead into LEARNING. -/
theorem Line.Keeps.of_settles {l l' : Line} (hrep : l'.rep = l.rep) (hcls : l.cls.Settles l'.cls)
    (hst : l'.sup.state = .learning → l.sup.state = .learning) : l.Keeps l' where
  attention h := hrep ▸ h
  range h := ⟨hcls.inRange h.1, fun hl => lt_of_le_of_lt hcls.learnCount (h.2 (hst hl))⟩

/-- An operation that leaves the report reckoning and the classifier, and does not lead into LEARNING. -/
theorem Line.Keeps.of_cls_eq {l l' : Line} (hrep : l'.rep = l.rep) (hcls : l'.cls = l.cls)
    (hst : l'.sup.state = .learning → l.sup.state = .learning) : l.Keeps l' :=
  .of_settles hrep (hcls ▸ .refl _) hst

/-- R140, R142: an append never clears the attention bit. -/
theorem Reckoning.append_attention {k : Reckoning} (p : Params) (time : Nat) (r : Report)
    (after : LineState) (h : k.attention = true) : (k.append p time r after).attention = true := by
  unfold Reckoning.append Reckoning.write Reckoning.drop
  dsimp only
  split
  · simp [h]
  · split <;> simp [h]

theorem Line.keeps_append (l : Line) (p : Params) (time : Nat) (r : Report) (after : LineState) :
    l.Keeps (l.append p time r after) :=
  ⟨Reckoning.append_attention p time r after, id⟩

theorem Line.keeps_enter (l : Line) {st : LineState} (tone : Tone) (hst : st ≠ .learning) :
    l.Keeps (l.enter st tone) := .of_cls_eq rfl rfl fun h => absurd h hst

theorem Line.keeps_enterFresh (l : Line) {st : LineState} (tone : Tone) (hst : st ≠ .learning) :
    l.Keeps (l.enterFresh st tone) := .of_cls_eq rfl rfl fun h => absurd h hst

theorem Line.keeps_enterLearning (l : Line) : l.Keeps l.enterLearning where
  attention := id
  range h := ⟨l.cls.settles_startLearning.inRange h.1, fun _ => Nat.zero_lt_succ 7⟩

theorem Line.keeps_outOfService (l : Line) : l.Keeps l.outOfService :=
  .of_settles rfl l.cls.settles_interrupted fun h => by simp at h

theorem Line.halted_not_learning (l : Line) : l.halted.sup.state ≠ .learning := by
  simp only [Line.halted]
  split <;> decide

theorem Line.keeps_halted (l : Line) : l.Keeps l.halted :=
  .of_settles rfl l.cls.settles_interrupted fun h => absurd h l.halted_not_learning

/-- What a released line notices is its guard alone. -/
theorem Line.noticeReleased_eq (l : Line) (now : Instant) (g : Nat) :
    ∃ r, l.noticeReleased now g = { l with sup.guardRecord := r } := by
  unfold Line.noticeReleased
  split
  · split
    · exact ⟨_, rfl⟩
    · exact ⟨_, rfl⟩
  · exact ⟨l.sup.guardRecord, rfl⟩

theorem Line.noticeReleased_rep (l : Line) (now : Instant) (g : Nat) :
    (l.noticeReleased now g).rep = l.rep := by
  obtain ⟨r, h⟩ := l.noticeReleased_eq now g
  rw [h]

theorem Line.noticeReleased_cls (l : Line) (now : Instant) (g : Nat) :
    (l.noticeReleased now g).cls = l.cls := by
  obtain ⟨r, h⟩ := l.noticeReleased_eq now g
  rw [h]

theorem Line.noticeReleased_state (l : Line) (now : Instant) (g : Nat) :
    (l.noticeReleased now g).sup.state = l.sup.state := by
  obtain ⟨r, h⟩ := l.noticeReleased_eq now g
  rw [h]

theorem Line.noticeReleased_deadline (l : Line) (now : Instant) (g : Nat) :
    (l.noticeReleased now g).sup.deadline = l.sup.deadline := by
  obtain ⟨r, h⟩ := l.noticeReleased_eq now g
  rw [h]

theorem Line.keeps_noticeReleased (l : Line) (now : Instant) (g : Nat) :
    l.Keeps (l.noticeReleased now g) :=
  .of_cls_eq (l.noticeReleased_rep now g) (l.noticeReleased_cls now g)
    fun h => (l.noticeReleased_state now g) ▸ h

theorem Line.keeps_atCrossing (l : Line) (now : Instant) (g : Nat) : l.Keeps (l.atCrossing now g) := by
  unfold Line.atCrossing
  split
  · exact .refl l
  · exact .of_settles rfl l.cls.settles_relayOperated id
  · refine .trans ?_ (Line.keeps_noticeReleased _ now g)
    split
    · exact .of_settles (l' := { l.switchReleased now with rel.pending := .none }) rfl
        l.cls.settles_relayReleased id
    · exact .of_settles rfl l.cls.settles_relayReleased id

theorem Line.atCrossing_state (l : Line) (now : Instant) (g : Nat) :
    (l.atCrossing now g).sup.state = l.sup.state := by
  unfold Line.atCrossing
  split
  · rfl
  · rfl
  · rw [Line.noticeReleased_state]
    split <;> rfl

theorem Line.keeps_atFailure (l : Line) (now : Instant) (g : Nat) : l.Keeps (l.atFailure now g) := by
  unfold Line.atFailure
  split
  · exact .trans (l' := { l.switchReleased now with rel.pending := .none })
      (.of_settles rfl l.cls.settles_relayReleased id) (Line.keeps_noticeReleased _ now g)
  · split
    · exact .refl l
    · exact .of_cls_eq rfl rfl id
    · exact .trans (l' := { l with rel.pending := .none, cls := l.cls.relayReleased })
        (.of_settles rfl l.cls.settles_relayReleased id) (Line.keeps_noticeReleased _ now g)

theorem Line.atFailure_state (l : Line) (now : Instant) (g : Nat) :
    (l.atFailure now g).sup.state = l.sup.state := by
  unfold Line.atFailure
  split
  · rw [Line.noticeReleased_state]
    rfl
  · split
    · rfl
    · rfl
    · rw [Line.noticeReleased_state]

theorem Line.keeps_guardToCall (l : Line) : l.Keeps l.guardToCall :=
  .of_settles rfl ⟨le_rfl, Nat.zero_le _, le_rfl, le_rfl, .inl rfl⟩ fun h => by
    simp [Line.guardToCall] at h

theorem Line.keeps_guardTo (l : Line) {st : LineState} (hst : st ≠ .learning) :
    l.Keeps (l.guardTo st) :=
  .of_settles rfl (l.cls.settles_leaveIgnore _) fun h => absurd h hst

theorem Line.keeps_endTest (l : Line) : l.Keeps l.endTest :=
  .of_settles rfl (l.cls.settles_leaveIgnore _) fun h => by simp [Line.endTest] at h

/-- A host-owned byte reads what is stored of it. -/
theorem State.readByte_hostOwned (s : State) {off : Nat} (h : hostOwned off = true) :
    s.readByte off = s.hostByte off := by
  have hr : ¬ off < 0x100 ∧ off < 0x2800 := by
    unfold hostOwned at h
    split at h
    · simp at h
    · split at h
      · omega
      · simp only [Bool.and_eq_true, decide_eq_true_eq] at h
        omega
  unfold State.readByte
  rw [if_neg hr.1]
  split
  · rfl
  · rw [if_pos (by omega)]

end Sys2Proof.Machine

namespace Sys2Proof.Safety

open Sys2Proof.Machine

/-! ### Frames -/

theorem ShelfKept.refl (s : State) : ShelfKept s s :=
  ⟨rfl, rfl, rfl, rfl, rfl, rfl, rfl, rfl, rfl, rfl⟩

theorem ShelfKept.trans {s t u : State} (h : ShelfKept s t) (h' : ShelfKept t u) : ShelfKept s u := by
  obtain ⟨h1, h2, h3, h4, h5, h6, h7, h8, h9, h10⟩ := h
  obtain ⟨k1, k2, k3, k4, k5, k6, k7, k8, k9, k10⟩ := h'
  exact ⟨k1.trans h1, k2.trans h2, k3.trans h3, k4.trans h4, k5.trans h5, k6.trans h6, k7.trans h7,
    k8.trans h8, k9.trans h9, k10.trans h10⟩

theorem ShelfKept.port {s t : State} (h : ShelfKept s t) : t.port = s.port := h.1

theorem ShelfKept.control {s t : State} (h : ShelfKept s t) : t.control = s.control := h.2.1

theorem ShelfKept.slots {s t : State} (h : ShelfKept s t) : t.slots = s.slots := h.2.2.2.1

theorem ShelfKept.cardPresent {s t : State} (h : ShelfKept s t) (m : LineNo) :
    t.cardPresent m = s.cardPresent m := by
  unfold State.cardPresent
  rw [h.slots]

theorem ShelfKept.shelfTime {s t : State} (h : ShelfKept s t) : t.shelfTime = s.shelfTime :=
  h.2.2.2.2.2.2.2.2.1

theorem ShelfKept.hostBytesKept {s t : State} (h : ShelfKept s t) : HostBytesKept s t := by
  intro off hoff
  rw [s.readByte_hostOwned hoff, t.readByte_hostOwned hoff, State.hostByte, State.hostByte, h.port]

theorem OtherLinesKept.refl (n : LineNo) (s : State) : OtherLinesKept n s s :=
  ⟨fun _ _ => rfl, rfl, rfl⟩

theorem OtherLinesKept.trans {n : LineNo} {s t u : State} (h : OtherLinesKept n s t)
    (h' : OtherLinesKept n t u) : OtherLinesKept n s u :=
  ⟨fun m hm => (h'.1 m hm).trans (h.1 m hm), h'.2.1.trans h.2.1, h'.2.2.trans h.2.2⟩

theorem SentOnlyFor.trans {n : LineNo} {s t u : State} (h : SentOnlyFor n s t)
    (h' : SentOnlyFor n t u) : SentOnlyFor n s u := by
  obtain ⟨w, hw, hn⟩ := h
  obtain ⟨w', hw', hn'⟩ := h'
  refine ⟨w' ++ w, by rw [hw', hw, List.append_assoc], fun x hx => ?_⟩
  exact (List.mem_append.1 hx).elim (hn' x) (hn x)

end Sys2Proof.Safety

namespace Sys2Proof.Machine

open Sys2Proof.Safety

/-! ### One operation of one line -/

/-- From `s` to `t` line n alone is touched, and its attention bit is not lost. -/
structure Touches (n : LineNo) (s t : State) : Prop where
  shelf : ShelfKept s t
  others : OtherLinesKept n s t
  words : SentOnlyFor n s t
  attention : (s.line n).rep.attention = true → (t.line n).rep.attention = true

theorem Touches.trans {n : LineNo} {s t u : State} (h : Touches n s t) (h' : Touches n t u) :
    Touches n s u :=
  ⟨h.shelf.trans h'.shelf, h.others.trans h'.others, h.words.trans h'.words,
    h'.attention ∘ h.attention⟩

theorem Touches.onlyLine {n : LineNo} {s t : State} (h : Touches n s t) : OnlyLine n s t :=
  ⟨h.shelf, h.shelf.hostBytesKept, h.others, h.words⟩

/-- R130: from `s` to `t` line n is sent the one word that the change of its setting asks for. -/
def Sends (n : LineNo) (s t : State) : Prop :=
  t.sent = relayWords (s.cardPresent n) n (s.line n) (t.line n) ++ s.sent

/-- R130: the words depend on the settings alone. -/
theorem relayWords_congr (p : Bool) (n : LineNo) {l l' m m' : Line} (h : l.setting = m.setting)
    (h' : l'.setting = m'.setting) : relayWords p n l l' = relayWords p n m m' := by
  unfold relayWords
  rw [h, h']

/-- One operation of line n: it touches that line alone, keeps it in range, and sends what a single change of
its setting asks for. -/
structure Works (n : LineNo) (s t : State) : Prop where
  touches : Touches n s t
  range : (s.line n).InRange → (t.line n).InRange
  sends : Sends n s t

theorem Works.of {n : LineNo} {s t : State} (shelf : ShelfKept s t) (others : OtherLinesKept n s t)
    (sends : Sends n s t) (line : (s.line n).Keeps (t.line n)) : Works n s t :=
  ⟨⟨shelf, others, ⟨_, sends, fun _ hx => relayWords_line hx⟩, line.attention⟩, line.range, sends⟩

theorem Works.keeps {n : LineNo} {s t : State} (h : Works n s t) : (s.line n).Keeps (t.line n) :=
  ⟨h.touches.attention, h.range⟩

/-- Words sent in two parts are those of the whole where the first part leaves the setting. -/
theorem Sends.quiet_then {n : LineNo} {s t u : State} (hp : t.cardPresent n = s.cardPresent n)
    (h : Sends n s t) (hs : (t.line n).setting = (s.line n).setting) (h' : Sends n t u) :
    Sends n s u := by
  unfold Sends at *
  rw [h', h, relayWords_of_setting_eq _ n hs.symm, hp, relayWords_congr _ n hs rfl, List.nil_append]

/-- Words sent in two parts are those of the whole where the second part leaves the setting. -/
theorem Sends.then_quiet {n : LineNo} {s t u : State} (h : Sends n s t) (h' : Sends n t u)
    (hs : (u.line n).setting = (t.line n).setting) : Sends n s u := by
  unfold Sends at *
  rw [h', h, relayWords_of_setting_eq _ n hs.symm, List.nil_append, relayWords_congr _ n rfl hs]

/-- Two operations make one where the first leaves the setting. -/
theorem Works.quiet_then {n : LineNo} {s t u : State} (h : Works n s t)
    (hs : (t.line n).setting = (s.line n).setting) (h' : Works n t u) : Works n s u :=
  ⟨h.touches.trans h'.touches, h'.range ∘ h.range,
    h.sends.quiet_then (h.touches.shelf.cardPresent n) hs h'.sends⟩

/-- Two operations make one where the second leaves the setting. -/
theorem Works.then_quiet {n : LineNo} {s t u : State} (h : Works n s t) (h' : Works n t u)
    (hs : (u.line n).setting = (t.line n).setting) : Works n s u :=
  ⟨h.touches.trans h'.touches, h'.range ∘ h.range, h.sends.then_quiet h'.sends hs⟩

theorem Works.refl (n : LineNo) (s : State) : Works n s s :=
  .of (.refl s) (.refl n s) (by simp [Sends]) (.refl _)

/-! ### The operations that all others are made of -/

theorem Works.updLine {n : LineNo} {s : State} {f : Line → Line}
    (h : (s.line n).Keeps (f (s.line n))) : Works n s (s.updLine n f) :=
  .of ⟨rfl, rfl, rfl, rfl, rfl, rfl, rfl, rfl, rfl, rfl⟩
    ⟨fun _ hm => State.updLine_line_ne s f hm, rfl, rfl⟩
    (by simp [Sends, State.updLine_sent]) (by simpa using h)

/-- An operation of the ring lists alone. -/
theorem Works.lists {n : LineNo} {s : State} {sched : Scheduler} (hslot : sched.slot = s.sched.slot)
    (hnext : sched.nextBoundary = s.sched.nextBoundary)
    (hb : sched.bookings.filter (fun b => decide (b.line ≠ n)) =
      s.sched.bookings.filter fun b => decide (b.line ≠ n))
    (hw : sched.waits.filter (fun e => decide (e.line ≠ n)) =
      s.sched.waits.filter fun e => decide (e.line ≠ n)) :
    Works n s { s with sched := sched } :=
  .of ⟨rfl, rfl, rfl, rfl, hslot, hnext, rfl, rfl, rfl, rfl⟩ ⟨fun _ _ => rfl, hb, hw⟩
    (by simp [Sends, State.line]) (.refl _)

/-- An append sends nothing and changes no setting. -/
theorem State.report_setting (s : State) (n : LineNo) (r : Report) :
    ((s.report n r).line n).setting = (s.line n).setting := by
  simp [Line.setting]

theorem works_report (s : State) (n : LineNo) (r : Report) : Works n s (s.report n r) :=
  .updLine (Line.keeps_append _ _ _ _ _)

theorem Works.report {n : LineNo} {s t : State} (h : Works n s t) (r : Report) :
    Works n s (t.report n r) :=
  h.then_quiet (works_report t n r) (t.report_setting n r)

theorem works_dropBookings (s : State) (n : LineNo) : Works n s (s.dropBookings (· = n)) :=
  .lists rfl rfl (by simp) rfl

theorem works_dropWaits (s : State) (n : LineNo) : Works n s (s.dropWaits (· = n)) :=
  .lists rfl rfl rfl (by simp)

theorem works_addBooking (s : State) {n : LineNo} {b : Booking} (hb : b.line = n) :
    Works n s (s.addBooking b) :=
  .lists rfl rfl (by simp [hb]) rfl

theorem works_joinTail (s : State) {n : LineNo} {e : WaitEntry} (he : e.line = n) :
    Works n s (s.joinTail e) :=
  .lists rfl rfl rfl (by simp [he])

theorem works_joinEvicted (s : State) {n : LineNo} {e : WaitEntry} (mark : EvictionMark)
    (he : e.line = n) : Works n s (s.joinEvicted e mark) := by
  refine .lists rfl rfl rfl ?_
  cases hi : insertBehindLast mark.behind e s.sched.waits with
  | none => simp [he]
  | some w =>
    obtain ⟨front, x, back, hs, rfl, -, -⟩ := insertBehindLast_some hi
    simp [he, hs, List.filter_cons]

/-- A change of line n's booking leaves the other entries. -/
theorem works_updBooking (s : State) (n : LineNo) {f : Booking → Booking}
    (hf : ∀ b, (f b).line = b.line) : Works n s (s.updBooking n f) := by
  refine .lists rfl rfl ?_ rfl
  induction s.sched.bookings with
  | nil => rfl
  | cons b bs ih => by_cases hb : b.line = n <;> simp_all

/-- A change of line n's wait entry leaves the other entries. -/
theorem works_updWait (s : State) (n : LineNo) {f : WaitEntry → WaitEntry}
    (hf : ∀ e, (f e).line = e.line) :
    Works n s { s with sched.waits := s.sched.waits.map fun e => if e.line = n then f e else e } := by
  refine .lists rfl rfl rfl ?_
  dsimp only
  induction s.sched.waits with
  | nil => rfl
  | cons e es ih => by_cases he : e.line = n <;> simp_all

end Sys2Proof.Machine
end

section
/-! PROOFS. The operations of the Line Supervisor, the Ring Scheduler and the orders, each as one operation of
one line. -/

namespace Sys2Proof.Machine

open Sys2Proof.Safety

/-! ### Items of a sample (R68) -/

theorem works_clearLine (s : State) (n : LineNo) : Works n s (s.clearLine n) :=
  .report (.updLine (Line.keeps_enter _ _ (by decide))) _

theorem works_clearDialing (s : State) (n : LineNo) : Works n s (s.clearDialing n) :=
  .quiet_then (.updLine (.of_cls_eq rfl rfl id)) (by simp [Line.setting]) (works_clearLine _ n)

theorem works_itemClear (s : State) (n : LineNo) : Works n s (s.itemClear n) := by
  unfold State.itemClear
  split
  case h_2 => exact works_clearDialing s n
  case h_1 | h_3 | h_4 | h_5 | h_6 => exact works_clearLine s n
  all_goals exact .refl n s

theorem works_firstPulse (s : State) (n : LineNo) : Works n s (s.firstPulse n) :=
  .updLine (.of_cls_eq rfl rfl fun h => by simp at h)

theorem works_pulseDialing (s : State) (n : LineNo) : Works n s (s.pulseDialing n) := by
  unfold State.pulseDialing
  dsimp only
  split
  · exact .refl n s
  · split
    · exact .report (.updLine (.of_cls_eq rfl rfl id)) _
    · exact .updLine (.of_cls_eq rfl rfl id)

theorem works_gapDialing (s : State) (n : LineNo) : Works n s (s.gapDialing n) := by
  unfold State.gapDialing
  split
  · exact .refl n s
  · exact .report (.updLine (.of_cls_eq rfl rfl id)) _

theorem works_flashDialing (s : State) (n : LineNo) (length : Nat) :
    Works n s (s.flashDialing n length) :=
  .report (.updLine (.of_cls_eq rfl rfl id)) _

theorem works_startSeizing (s : State) (n : LineNo) : Works n s (s.startSeizing n) :=
  .updLine (Line.keeps_enterFresh _ _ (by decide))

theorem works_itemClose (s : State) (n : LineNo) (finished : Option (BreakClass × Nat)) :
    Works n s (s.itemClose n finished) := by
  unfold State.itemClose
  split
  · exact works_startSeizing s n
  · exact works_firstPulse s n
  · exact works_pulseDialing s n
  · exact works_gapDialing s n
  · exact works_flashDialing s n _
  · exact works_report s n _
  · exact works_itemClear s n
  · exact .refl n s

theorem works_itemOpen (s : State) (n : LineNo) : Works n s (s.itemOpen n) := by
  unfold State.itemOpen
  split
  · exact .updLine (Line.keeps_enter _ _ (by decide))
  · exact .refl n s

theorem works_qualifySeizure (s : State) (n : LineNo) : Works n s (s.qualifySeizure n) :=
  .report (.updLine (.of_cls_eq rfl rfl fun h => by simp at h)) _

theorem works_endDigit (s : State) (n : LineNo) : Works n s (s.endDigit n) := by
  unfold State.endDigit
  dsimp only
  split
  · exact .updLine (.of_cls_eq rfl rfl id)
  · split
    · exact .refl n s
    · exact .report (.updLine (.of_cls_eq rfl rfl id)) _

theorem works_answerNow (s : State) (n : LineNo) (how : AnswerKind) (frames : Nat) :
    Works n s (s.answerNow n how frames) :=
  .report (.updLine (.of_cls_eq rfl rfl fun h => by simp at h)) _

theorem works_makeRinging (s : State) (n : LineNo) (ms : Nat) : Works n s (s.makeRinging n ms) := by
  have hanswer (how frames) : Works n s ((s.dropBookings (· = n)).answerNow n how frames) :=
    .quiet_then (works_dropBookings s n) rfl (works_answerNow _ n how frames)
  unfold State.makeRinging
  split
  · exact .refl n s
  · split
    · exact hanswer _ _
    · split
      · exact hanswer _ _
      · exact .refl n s

theorem works_makeWaiting (s : State) (n : LineNo) (ms : Nat) : Works n s (s.makeWaiting n ms) := by
  unfold State.makeWaiting
  split
  · exact .quiet_then (works_dropWaits s n) rfl (works_answerNow _ n _ _)
  · exact .refl n s

theorem works_itemMake (s : State) (n : LineNo) (ms : Nat) (fresh : Bool) :
    Works n s (s.itemMake n ms fresh) := by
  unfold State.itemMake
  split
  case h_1 =>
    split
    · exact .refl n s
    · exact works_startSeizing s n
  case h_2 =>
    split
    · exact works_qualifySeizure s n
    · exact .refl n s
  case h_3 =>
    split
    · exact works_endDigit s n
    · exact .refl n s
  case h_4 => exact works_makeRinging s n ms
  case h_5 => exact works_makeWaiting s n ms
  all_goals exact .refl n s

theorem Line.keeps_enterGuard (l : Line) (target : ExitTarget) : l.Keeps (l.enterGuard target) :=
  .of_cls_eq rfl rfl fun h => by simp at h

theorem works_itemTrip (s : State) (n : LineNo) (now : Instant) : Works n s (s.itemTrip n now) := by
  unfold State.itemTrip
  split
  · refine .report (.quiet_then (works_dropBookings s n) rfl (.updLine ?_)) _
    refine (Line.keeps_enterGuard _ .inCall).trans ?_
    dsimp only
    split
    · exact .trans
        (l' := { (Line.enterGuard _ ExitTarget.inCall).switchReleased now with rel.pending := .none })
        (.of_settles rfl (Classifier.settles_relayReleased _) id) (Line.keeps_noticeReleased _ now _)
    · exact .of_cls_eq rfl rfl id
  · exact .refl n s

theorem works_itemLearned (s : State) (n : LineNo) : Works n s (s.itemLearned n) :=
  .updLine (Line.keeps_enter _ _ (by decide))

theorem works_takeEvent (s : State) (n : LineNo) (now : Instant) (e : Option LineEvent) :
    Works n s (s.takeEvent n now e) := by
  match e with
  | none => exact .refl n s
  | some .opened => exact works_itemOpen s n
  | some (.closed finished) => exact works_itemClose s n finished
  | some .trip => exact works_itemTrip s n now
  | some .learned => exact works_itemLearned s n

theorem works_takeClear (s : State) (n : LineNo) (clear : Option Nat) :
    Works n s (s.takeClear n clear) := by
  match clear with
  | none => exact .refl n s
  | some _ => exact works_itemClear s n

theorem works_takeElapsed (s : State) (n : LineNo) (fresh : Bool) (e : Option Elapsed) :
    Works n s (s.takeElapsed n fresh e) := by
  match e with
  | none => exact .refl n s
  | some (.breakFor _) => exact .refl n s
  | some (.makeFor ms) => exact works_itemMake s n ms fresh

/-! ### The supervision deadline and the ignore mode (R67, R118, R137) -/

theorem works_expireToHowler (s : State) (n : LineNo) (kind : DeadlineKind) :
    Works n s (s.expireToHowler n kind) :=
  .report (.updLine (.of_cls_eq rfl rfl fun h => by simp at h)) _

theorem works_expire (s : State) (n : LineNo) (kind : DeadlineKind) : Works n s (s.expire n kind) := by
  unfold State.expire
  split
  case h_4 => exact .report (.updLine (Line.keeps_enter _ _ (by decide))) _
  case h_5 => exact .updLine (.of_cls_eq rfl rfl id)
  all_goals exact works_expireToHowler s n _

theorem works_judgeDeadline (s : State) (n : LineNo) : Works n s (s.judgeDeadline n) := by
  unfold State.judgeDeadline
  split
  · exact works_expire s n _
  · exact .refl n s

theorem works_guardTo (s : State) (n : LineNo) {st : LineState} (hst : st ≠ .learning) :
    Works n s (s.updLine n fun l => l.guardTo st) :=
  .updLine (Line.keeps_guardTo _ hst)

theorem works_endGuard (s : State) (n : LineNo) (target : ExitTarget) :
    Works n s (s.endGuard n target) := by
  unfold State.endGuard
  split
  · exact .updLine (Line.keeps_guardToCall _)
  · exact works_guardTo s n (by decide)
  · exact .report (.then_quiet (works_guardTo s n (by decide)) (works_joinEvicted _ _ rfl) rfl) _
  · exact .report (.then_quiet (works_guardTo s n (by decide)) (works_joinTail _ rfl) rfl) _

theorem works_finishTest (s : State) (n : LineNo) (sum : Nat) : Works n s (s.finishTest n sum) :=
  .report (.updLine (Line.keeps_endTest _)) _

theorem works_ignoredSample (s : State) (n : LineNo) (now : Instant) (sample : Nat) :
    Works n s (s.ignoredSample n now sample) := by
  unfold State.ignoredSample
  split
  · exact works_endGuard s n _
  · split
    · split
      · exact works_finishTest s n _
      · exact .updLine (.of_cls_eq rfl rfl id)
    · exact .refl n s

/-! ### The Ring Scheduler's operations of one line -/

theorem works_guardWithRelease (s : State) (n : LineNo) (target : ExitTarget) :
    Works n s (s.guardWithRelease n target) :=
  .updLine ((Line.keeps_enterGuard _ target).trans (.of_cls_eq rfl rfl id))

theorem works_ringToIdle (s : State) (n : LineNo) : Works n s (s.ringToIdle n) := by
  unfold State.ringToIdle
  split
  · exact works_guardWithRelease s n .idle
  · exact .updLine (Line.keeps_enterFresh _ _ (by decide))

theorem works_book (s : State) (n : LineNo) (p : Fin 4) (r : FrameSlot) (maxFrames : Nat) :
    Works n s (s.book n p r maxFrames) :=
  .quiet_then (works_addBooking s rfl) rfl (.updLine (Line.keeps_enterFresh _ _ (by decide)))

theorem works_waitAtTail (s : State) (n : LineNo) (p : Fin 4) (maxFrames : Nat) :
    Works n s (s.waitAtTail n p maxFrames) :=
  .quiet_then (works_joinTail s rfl) rfl (.updLine (Line.keeps_enterFresh _ _ (by decide)))

theorem works_applyChange (s : State) (n : LineNo) (c : FrameSlot) (change : PendingChange) :
    Works n s (s.applyChange n c change) := by
  unfold State.applyChange
  refine .quiet_then (works_dropBookings s n) rfl ?_
  dsimp only
  split
  · exact .report (works_book _ n _ _ _) _
  · split
    · exact works_guardWithRelease _ n _
    · exact .report (works_waitAtTail _ n _ _) _

theorem works_frameEnd (c : FrameSlot) (s : State) (n : LineNo) : Works n s (s.frameEnd c n) := by
  unfold State.frameEnd
  split
  · exact .refl n s
  · split
    · exact .report (.quiet_then (works_dropBookings s n) rfl (works_ringToIdle _ n)) _
    · split
      · exact works_applyChange s n c _
      · exact works_updBooking s n fun _ => rfl

theorem works_endWait (s : State) (n : LineNo) : Works n s (s.endWait n) :=
  .report (.quiet_then (works_dropWaits s n) rfl (.updLine (Line.keeps_enterFresh _ _ (by decide)))) _

theorem works_evictLine (s : State) (b : Booking) (mark : EvictionMark) :
    Works b.line s (s.evictLine b mark) := by
  unfold State.evictLine
  dsimp only
  split
  · exact works_guardWithRelease s b.line _
  · exact .quiet_then (works_joinEvicted s mark rfl) rfl
      (.updLine (Line.keeps_enterFresh _ _ (by decide)))

theorem works_standOperated (s : State) (n : LineNo) (p : Fin 4) :
    Works n s (s.updLine n fun l => l.standOperated l.sup.parties[p].lead) :=
  .updLine (.of_cls_eq rfl rfl id)

theorem works_walkBook (s : State) (c : FrameSlot) (e : WaitEntry) (r : FrameSlot) :
    Works e.line s (s.walkBook c e r) := by
  have hbook : Works e.line s
      (((s.dropWaits (· = e.line)).book e.line e.party r e.maxFrames).report e.line
        (.ringBooked (r - c).val r)) :=
    .report (.quiet_then (works_dropWaits s e.line) rfl (works_book _ _ _ _ _)) _
  unfold State.walkBook
  dsimp only
  split
  · refine .then_quiet (.then_quiet hbook (works_updBooking _ e.line
      (f := fun b => { b with firstBurst := true }) fun _ => rfl) rfl) (works_standOperated _ e.line e.party) ?_
    simp [Line.standOperated, Line.setting]
  · exact hbook

theorem works_queueDown (s : State) (n : LineNo) : Works n s (s.queueDown n) :=
  .report (.updLine (Line.keeps_enterFresh _ _ (by decide))) _

/-! ### The orders -/

theorem works_orderServiceOn (s : State) (n : LineNo) : Works n s (s.orderServiceOn n).state := by
  unfold State.orderServiceOn
  split
  · split
    · exact .updLine (Line.keeps_enterLearning _)
    · exact .refl n s
  · exact .refl n s

theorem works_orderServiceOff (s : State) (n : LineNo) : Works n s (s.orderServiceOff n).state := by
  unfold State.orderServiceOff
  split
  · exact .refl n s
  · exact .quiet_then (works_dropBookings s n) rfl
      (.quiet_then (works_dropWaits _ n) rfl (.updLine (Line.keeps_outOfService _)))

theorem works_orderService (s : State) (n : LineNo) (value : Byte) :
    Works n s (s.orderService n value).state := by
  unfold State.orderService
  split
  · exact works_orderServiceOff s n
  · split
    · exact works_orderServiceOn s n
    · exact .refl n s

theorem works_orderConfigure (s : State) (n : LineNo) (c : ConfigBytes) :
    Works n s (s.orderConfigure n c).state := by
  have hinstall (l : Line) : l.Keeps (l.installConfig c) := .of_cls_eq rfl rfl id
  unfold State.orderConfigure
  split
  · exact .refl n s
  · split
    · exact .updLine (f := fun l => l.installConfig c) (hinstall _)
    · refine .updLine (f := fun l => if profileGiven c = l.sup.profile then l.installConfig c
        else (l.installConfig c).enterLearning) ?_
      split
      · exact hinstall _
      · exact (hinstall _).trans (Line.keeps_enterLearning _)
    · exact .refl n s

theorem works_enterFresh (s : State) (n : LineNo) {st : LineState} (tone : Tone)
    (hst : st ≠ .learning) : Works n s (s.updLine n fun l => l.enterFresh st tone) :=
  .updLine (Line.keeps_enterFresh _ tone hst)

theorem works_orderConnect (s : State) (n : LineNo) : Works n s (s.orderConnect n).state := by
  unfold State.orderConnect
  split
  case h_1 | h_2 => exact works_enterFresh s n _ (by decide)
  all_goals exact .refl n s

theorem works_releaseLine (s : State) (n : LineNo) (tone : Tone) : Works n s (s.releaseLine n tone) := by
  unfold State.releaseLine
  split
  · exact .updLine (.of_cls_eq rfl rfl fun h => by simp at h)
  · exact .updLine (Line.keeps_enterFresh _ _ (by decide))

theorem works_orderRelease (s : State) (n : LineNo) (tone : Byte) :
    Works n s (s.orderRelease n tone).state := by
  unfold State.orderRelease
  split
  · exact .refl n s
  · dsimp only
    split
    case h_1 | h_2 | h_3 => exact works_releaseLine s n _
    all_goals exact .refl n s

theorem works_ringIdle (s : State) (n : LineNo) (p : Fin 4) (maxFrames : Nat) (o : OrderOutcome) :
    Works n s (s.ringIdle n p maxFrames o).state := by
  unfold State.ringIdle
  split
  · split
    · exact works_book s n p _ maxFrames
    · exact works_waitAtTail s n p maxFrames
  · exact works_waitAtTail s n p maxFrames

theorem works_ringParty (s : State) (n : LineNo) (p : Fin 4) (maxFrames : Byte) :
    Works n s (s.ringParty n p maxFrames).state := by
  unfold State.ringParty
  split
  · exact .refl n s
  · split
    · exact .refl n s
    · split
      · exact .refl n s
      · dsimp only
        split
        · exact works_updBooking s n fun _ => rfl
        · exact works_updWait s n fun _ => rfl
        · exact works_ringIdle s n p _ _

theorem works_orderRing (s : State) (n : LineNo) (party maxFrames : Byte) :
    Works n s (s.orderRing n party maxFrames).state := by
  unfold State.orderRing
  split
  · exact works_ringParty s n _ maxFrames
  · exact .refl n s

theorem works_orderStop (s : State) (n : LineNo) : Works n s (s.orderStop n).state := by
  unfold State.orderStop
  split
  · exact .quiet_then (works_dropBookings s n) rfl (works_ringToIdle _ n)
  · exact .quiet_then (works_dropWaits s n) rfl (works_enterFresh _ n _ (by decide))
  · exact .updLine (f := fun l => { l with sup.guardRecord := l.sup.guardRecord.map GuardRecord.stopped })
      (.of_cls_eq rfl rfl id)
  · exact .refl n s

theorem works_orderTest (s : State) (n : LineNo) (now : Instant) :
    Works n s (s.orderTest n now).state := by
  unfold State.orderTest
  split
  · exact .refl n s
  · split
    · exact .refl n s
    · exact .updLine (f := fun l => l.startTest now)
        (.of_cls_eq rfl rfl fun h => by simp [Line.startTest] at h)

theorem works_answer (s : State) (n : LineNo) (o : Order) (now : Instant) :
    Works n s (s.answer n o now).state := by
  cases o with
  | note => exact .refl n s
  | service value => exact works_orderService s n value
  | configure bytes => exact works_orderConfigure s n bytes
  | ring party maxFrames => exact works_orderRing s n party maxFrames
  | stop => exact works_orderStop s n
  | connect => exact works_orderConnect s n
  | release tone => exact works_orderRelease s n tone
  | test => exact works_orderTest s n now
  | badKind kind => exact .refl n s

/-- Reports that follow one another are one operation, and change no setting. -/
theorem Works.reports {n : LineNo} {s t : State} (h : Works n s t) (rs : List Report) :
    Works n s (rs.foldl (fun s r => s.report n r) t) := by
  induction rs generalizing t with
  | nil => exact h
  | cons r rs ih => exact ih (h.report r)

/-- R13: what is recorded of an answer belongs to the operation of the order. -/
theorem Works.taken {n : LineNo} {s : State} {a : Answer} (h : Works n s a.state) (kind seq : Byte) :
    Works n s (a.taken n kind seq) :=
  .reports (.report (.then_quiet h (.updLine (.of_cls_eq rfl rfl id)) (by simp [Line.setting])) _) _

/-! ### Stages 4 and 5 of a sample, and its delivery (R25, R41, R44) -/

theorem works_delivered (s : State) (n : LineNo) : Works n s (s.delivered n) :=
  .updLine (.of_cls_eq rfl rfl id)

theorem baselineStep_le (b sample : Nat) : baselineStep b sample ≤ 4080 := by
  unfold baselineStep
  dsimp only
  omega

theorem works_updateBaseline (s : State) (n : LineNo) (sample tc : Nat) :
    Works n s (s.updateBaseline n sample tc) := by
  unfold State.updateBaseline
  split
  · refine .updLine ⟨id, fun ⟨⟨_, hr, ht, hl, hm⟩, hst⟩ => ⟨⟨?_, hr, ht, hl, hm⟩, hst⟩⟩
    exact baselineStep_le _ sample
  · exact .refl n s

theorem works_checkLeakage (s : State) (n : LineNo) : Works n s (s.checkLeakage n) := by
  have hset (v : Bool) : Works n s (s.updLine n fun x => { x with cls.leakageHigh := v }) :=
    .updLine (.of_settles rfl ⟨le_rfl, le_rfl, le_rfl, le_rfl, .inl rfl⟩ id)
  unfold State.checkLeakage
  dsimp only
  split
  · split
    · exact (hset false).report _
    · exact .refl n s
  · split
    · exact (hset true).report _
    · exact .refl n s

end Sys2Proof.Machine
end

section
/-! PROOFS. What a sample arrival, a parameter load and the stages of a slot boundary leave of the shelf, said
once for each, and the ranges that they keep. -/

namespace Sys2Proof.Machine

open Sys2Proof.Safety

/-! ### Stage 2 of a sample (R43, R45, R48) -/

/-- R45: what a debounce run leaves of the values in range. -/
theorem Classifier.advanceRun_counts (c : Classifier) (raw : Hook) (k : BitVec 32) :
    (c.advanceRun raw k).baseline = c.baseline ∧ (c.advanceRun raw k).tripCount = c.tripCount ∧
      (c.advanceRun raw k).learnCount = c.learnCount ∧ (c.advanceRun raw k).learnMin = c.learnMin ∧
      (c.advanceRun raw k).runCount = if raw = c.confirmed then 0 else c.runCount + 1 := by
  unfold Classifier.advanceRun
  split <;> simp

/-- R45, R56: a confirmed close leaves no run, and the other counts as they were. -/
theorem Classifier.confirmClose_counts (c : Classifier) (p : Profile) :
    (c.confirmClose p).baseline = c.baseline ∧ (c.confirmClose p).tripCount = c.tripCount ∧
      (c.confirmClose p).learnCount = c.learnCount ∧ (c.confirmClose p).learnMin = c.learnMin ∧
      (c.confirmClose p).runCount = 0 := by
  unfold Classifier.confirmClose
  dsimp only
  split <;> exact ⟨rfl, rfl, rfl, rfl, rfl⟩

/-- R45: a hook decision keeps the ranges: a run ends at the latest when it reaches D, which is at most 4. -/
theorem Classifier.hookDecision_inRange {c : Classifier} {p : Profile} (sample : Nat) (k : BitVec 32)
    (hd : p.d ≤ 4) (hc : c.InRange) : (c.hookDecision p sample k).1.InRange := by
  obtain ⟨hb, hr, ht, hl, hm⟩ := hc
  obtain ⟨ab, at', al, am, ar⟩ := c.advanceRun_counts (c.rawAfter p sample) k
  unfold Classifier.hookDecision
  dsimp only
  split
  · split
    · exact ⟨ab ▸ hb, Nat.zero_le _, at' ▸ ht, al ▸ hl, am ▸ hm⟩
    · obtain ⟨bb, bt, bl, bm, br⟩ := (c.advanceRun (c.rawAfter p sample) k).confirmClose_counts p
      exact ⟨by rw [bb, ab]; exact hb, by rw [br]; exact Nat.zero_le _, by rw [bt, at']; exact ht,
        by rw [bl, al]; exact hl, by rw [bm, am]; exact hm⟩
  · next hrun =>
    refine ⟨ab ▸ hb, ?_, at' ▸ ht, al ▸ hl, am ▸ hm⟩
    by_cases hraw : c.rawAfter p sample = c.confirmed
    · rw [ar, if_pos hraw]
      exact Nat.zero_le _
    · have hshort : ¬ p.d ≤ (c.advanceRun (c.rawAfter p sample) k).runCount := fun h => hrun ⟨hraw, h⟩
      dsimp only
      omega

theorem Classifier.watch_inRange {c : Classifier} {p : Profile} (sample : Nat) (k : BitVec 32)
    (hd : p.d ≤ 4) (hc : c.InRange) : (c.watch p sample k).1.InRange := by
  have h := Classifier.hookDecision_inRange sample k hd hc
  unfold Classifier.watch
  dsimp only
  split
  · exact h
  · exact h

theorem Classifier.tripWatch_inRange {c : Classifier} {p : Profile} (sample : Nat)
    (hp : p.tripConfirm ≤ 8) (hc : c.InRange) : (c.tripWatch p sample).1.InRange := by
  obtain ⟨hb, hr, ht, hl, hm⟩ := hc
  unfold Classifier.tripWatch
  split
  · split
    · exact ⟨hb, hr, Nat.zero_le _, hl, hm⟩
    · exact ⟨hb, hr, by dsimp only; omega, hl, hm⟩
  · exact ⟨hb, hr, Nat.zero_le _, hl, hm⟩

theorem Classifier.learnSample_inRange {c : Classifier} {p : Profile} (sample : Nat) (hp : p.ll ≤ 120)
    (hc : c.InRange) (hlearn : c.learnCount < 8) : (c.learnSample p sample).1.InRange := by
  obtain ⟨hb, hr, ht, -, hm⟩ := hc
  unfold Classifier.learnSample
  dsimp only
  split
  · split
    · exact ⟨by dsimp only; omega, Nat.zero_le _, Nat.zero_le _, hlearn, by dsimp only; omega⟩
    · exact ⟨hb, Nat.zero_le _, Nat.zero_le _, hlearn, by dsimp only; omega⟩
  · exact ⟨hb, hr, ht, hlearn, by dsimp only; omega⟩

/-- R43: learning ends at the sample that brings the count to 8. -/
theorem Classifier.learnSample_ends (c : Classifier) (p : Profile) (sample : Nat) :
    (c.learnSample p sample).2.event = some .learned ∨ (c.learnSample p sample).1.learnCount < 8 := by
  unfold Classifier.learnSample
  dsimp only
  split
  · exact .inl rfl
  · next h => exact .inr (not_le.1 h)

/-- R39: a line in LEARNING is judged in learn mode. -/
theorem Line.mode_of_learning {l : Line} (now : Instant) (h : l.sup.state = .learning) :
    l.mode now = .learn := by
  simp only [Line.mode, h]

/-- R39: no line but one in LEARNING is judged in learn mode. -/
theorem Line.learning_of_mode {l : Line} {now : Instant} (h : l.mode now = .learn) :
    l.sup.state = .learning := by
  unfold Line.mode at h
  cases hs : l.sup.state <;> rw [hs] at h <;> dsimp only at h
  case outOfService | ringGuard | testing => cases h
  case ringing =>
    split at h
    · cases h
    · split at h <;> cases h
  all_goals split at h <;> cases h

/-- Stage 2 keeps the ranges, given that a line judged in learn mode has samples to learn. -/
theorem Classifier.stage2_inRange {c : Classifier} {m : Mode} {p : Profile} {sample : Nat}
    (k : BitVec 32) (hp : FieldsInRange p) (hc : c.InRange) (hlearn : m = .learn → c.learnCount < 8) :
    (c.stage2 m p sample k).1.InRange := by
  obtain ⟨⟨-, hd⟩, -, -, -, -, -, -, -, -, -, -, -, -, ⟨-, hll⟩, ⟨-, htc⟩, -⟩ := hp
  cases m with
  | watchUpdate | watch => exact Classifier.watch_inRange sample k hd hc
  | burst => exact Classifier.tripWatch_inRange sample htc hc
  | learn => exact Classifier.learnSample_inRange sample hll hc (hlearn rfl)
  | transient | off | ignore => exact hc

/-! ### A sample arrival (R40) -/

theorem touches_afterStage2 (s : State) (n : LineNo) (sample : Nat) :
    Touches n s (s.afterStage2 n sample) :=
  ⟨⟨rfl, rfl, rfl, rfl, rfl, rfl, rfl, rfl, rfl, rfl⟩,
    ⟨fun _ hm => State.updLine_line_ne s _ hm, rfl, rfl⟩,
    ⟨_, rfl, fun _ hx => relayWords_line hx⟩, by simp [State.afterStage2]⟩

theorem touches_afterElapsed (s : State) (n : LineNo) (sample : Nat) :
    Touches n s (s.afterElapsed n sample) :=
  (((touches_afterStage2 s n sample).trans (works_takeEvent _ n _ _).touches).trans
    (works_takeClear _ n _).touches).trans (works_takeElapsed _ n _ _).touches

theorem touches_afterItems (s : State) (n : LineNo) (sample : Nat) :
    Touches n s (s.afterItems n sample) := by
  unfold State.afterItems
  split
  · exact (works_ignoredSample s n _ sample).touches
  · exact (Works.refl n s).touches
  all_goals exact touches_afterElapsed s n sample

theorem touches_afterStage4 (s : State) (n : LineNo) (sample : Nat) :
    Touches n s (s.afterStage4 n sample) := by
  have h3 : Touches n s (s.afterStage3 n sample) :=
    (touches_afterItems s n sample).trans (works_judgeDeadline _ n).touches
  unfold State.afterStage4
  split
  · exact h3.trans (works_updateBaseline _ n sample _).touches
  · exact h3

theorem touches_arrival (s : State) (n : LineNo) (a : Option Byte) : Touches n s (s.arrival n a) := by
  unfold State.arrival State.stages
  split
  · have h4 := (works_delivered s n).touches.trans (touches_afterStage4 (s.delivered n) n (sampleOf a))
    split
    · exact h4.trans (works_checkLeakage _ n).touches
    · exact h4
  · exact (Works.refl n s).touches

/-- R43: what stage 2 leaves of line n is in range once its event is acted on, the end of learning among
them. -/
theorem afterEvent_inRange {s : State} {n : LineNo} (sample : Nat) (hp : FieldsInRange (s.profileOf n))
    (h : (s.line n).InRange) : ((s.afterEvent n sample).line n).InRange := by
  obtain ⟨hc, hl⟩ := h
  have hcls : (s.classified n sample).1.InRange :=
    Classifier.stage2_inRange _ hp hc fun hm => hl (Line.learning_of_mode hm)
  have hline : (s.afterStage2 n sample).line n = { s.line n with cls := (s.classified n sample).1 } := by
    simp [State.afterStage2]
  unfold State.afterEvent
  by_cases he : (s.handOn n sample).event = some .learned
  · rw [he]
    refine Line.inRange_of_not_learning ?_ ?_
    · simpa [State.takeEvent, State.itemLearned, hline] using hcls
    · simp [State.takeEvent, State.itemLearned]
  · refine (works_takeEvent _ n _ _).range ?_
    rw [hline]
    refine ⟨hcls, fun hs => ?_⟩
    have hm : s.modeOf n = .learn := Line.mode_of_learning _ hs
    have hends := (s.line n).cls.learnSample_ends (s.profileOf n) sample
    rw [State.handOn, State.classified, hm] at he
    rw [State.classified, hm]
    exact hends.resolve_left he

theorem afterItems_inRange {s : State} {n : LineNo} (sample : Nat) (hp : FieldsInRange (s.profileOf n))
    (h : (s.line n).InRange) : ((s.afterItems n sample).line n).InRange := by
  unfold State.afterItems
  split
  · exact (works_ignoredSample s n _ sample).range h
  · exact h
  all_goals exact (works_takeElapsed _ n _ _).range ((works_takeClear _ n _).range
      (afterEvent_inRange sample hp h))

theorem arrival_inRange {s : State} {n : LineNo} (a : Option Byte) (hp : FieldsInRange (s.profileOf n))
    (h : (s.line n).InRange) : ((s.arrival n a).line n).InRange := by
  have hprofile : (s.delivered n).profileOf n = s.profileOf n := by
    simp [State.profileOf, State.delivered]
  have h3 : (((s.delivered n).afterStage3 n (sampleOf a)).line n).InRange :=
    (works_judgeDeadline _ n).range
      (afterItems_inRange _ (hprofile ▸ hp) ((works_delivered s n).range h))
  have h4 : (((s.delivered n).afterStage4 n (sampleOf a)).line n).InRange := by
    unfold State.afterStage4
    split
    · exact (works_updateBaseline _ n _ _).range h3
    · exact h3
  unfold State.arrival State.stages
  split
  · split
    · exact (works_checkLeakage _ n).range h4
    · exact h4
  · exact h

/-! ### A parameter load (R20, R21) -/

theorem clamp_bounds {least greatest : Nat} (h : least ≤ greatest) (v : Nat) :
    least ≤ clamp least greatest v ∧ clamp least greatest v ≤ greatest := by
  unfold clamp
  omega

theorem roundEven_bounds (v : Nat) : roundEven v ≤ v ∧ v ≤ roundEven v + 1 ∧ roundEven v % 2 = 0 := by
  unfold roundEven
  omega

/-- A value clamped to a range with even bounds and made even stays in the range. -/
theorem roundEven_clamp_bounds {least greatest : Nat} (h : least ≤ greatest) (he : least % 2 = 0)
    (v : Nat) : least ≤ roundEven (clamp least greatest v) ∧
      roundEven (clamp least greatest v) ≤ greatest ∧ roundEven (clamp least greatest v) % 2 = 0 := by
  have hc := clamp_bounds h v
  have hr := roundEven_bounds (clamp least greatest v)
  omega

/-- R50, R64, R87: what clamping alone gives of the fields that the ordering adjustments touch. -/
theorem Profile.clamped_bounds (p : Profile) :
    FieldsInRange p.clamped ∧ p.clamped.sq % 2 = 0 ∧ p.clamped.pbMin % 2 = 0 ∧
      p.clamped.pbMax % 2 = 0 ∧ p.clamped.flMin % 2 = 0 ∧ p.clamped.flMax % 2 = 0 ∧
      p.clamped.idt % 2 = 0 := by
  have even {least greatest : Nat} (h : least ≤ greatest) (he : least % 2 = 0) (v : Nat) :=
    roundEven_clamp_bounds h he v
  obtain ⟨sq1, sq2, sq3⟩ := even (show 10 ≤ 400 by decide) rfl p.sq
  obtain ⟨pm1, pm2, pm3⟩ := even (show 10 ≤ 100 by decide) rfl p.pbMin
  obtain ⟨px1, px2, px3⟩ := even (show 20 ≤ 150 by decide) rfl p.pbMax
  obtain ⟨fm1, fm2, fm3⟩ := even (show 60 ≤ 1000 by decide) rfl p.flMin
  obtain ⟨fx1, fx2, fx3⟩ := even (show 100 ≤ 2000 by decide) rfl p.flMax
  obtain ⟨id1, id2, id3⟩ := even (show 60 ≤ 1000 by decide) rfl p.idt
  exact ⟨⟨clamp_bounds (by decide) _, ⟨sq1, sq2⟩, ⟨pm1, pm2⟩, ⟨px1, px2⟩, ⟨fm1, fm2⟩, ⟨fx1, fx2⟩,
    ⟨id1, id2⟩, clamp_bounds (by decide) _, clamp_bounds (by decide) _, clamp_bounds (by decide) _,
    clamp_bounds (by decide) _, clamp_bounds (by decide) _, clamp_bounds (by decide) _,
    clamp_bounds (by decide) _, clamp_bounds (by decide) _, clamp_bounds (by decide) _⟩,
    sq3, pm3, px3, fm3, fx3, id3⟩

/-- R65, R51: the ordering adjustments carry no field out of its range, and leave the orderings. -/
theorem Profile.adjusted_inRange (p : Profile) : FieldsInRange p.adjusted ∧ Installed p.adjusted := by
  obtain ⟨hf, sq, pm, px, fm, fx, idt⟩ := p.clamped_bounds
  unfold FieldsInRange at hf ⊢
  unfold Installed Profile.adjusted Profile.ordered
  dsimp only
  omega

/-- R21: the general parameters that a load installs are in their ranges. -/
theorem State.loadedParams_general (s : State) : GeneralInRange s.loadedParams := by
  have hlow : (s.hostByte 0x10C).toNat < 256 := (s.hostByte 0x10C).isLt
  have hhigh : (s.hostByte 0x10D).toNat < 256 := (s.hostByte 0x10D).isLt
  refine ⟨(clamp_bounds (by decide) _).2, roundEven_clamp_bounds (by decide) rfl _,
    clamp_bounds (by decide) _, clamp_bounds (by decide) _, clamp_bounds (by decide) _,
    le_max_right _ _, ?_⟩
  simp only [State.loadedParams, RawGeneral.adjusted, State.rawGeneral]
  omega

/-- R89: a compiled code is *on* at mark 0, since its first pair is in use and has an on length of at
least 1. -/
theorem RawCode.compile_zero {c : RawCode} {q : Nat × Nat} {rest : List (Nat × Nat)}
    (h : c.pairs = q :: rest) : c.compile[(0 : FrameSlot)] = true := by
  obtain ⟨m, hm⟩ : ∃ m, clamp 1 4 c.count = m + 1 := ⟨clamp 1 4 c.count - 1, by
    have := clamp_bounds (show 1 ≤ 4 by decide) c.count
    omega⟩
  obtain ⟨k, hk⟩ : ∃ k, clamp 1 6 q.1 = k + 1 := ⟨clamp 1 6 q.1 - 1, by
    have := clamp_bounds (show 1 ≤ 6 by decide) q.1
    omega⟩
  simp [RawCode.compile, RawCode.marks, RawCode.clamped, hm, h, hk, List.replicate_succ]

/-- R15, R20: what a load installs is in range and in order. -/
theorem State.loadedParams_inRange (s : State) :
    GeneralInRange s.loadedParams ∧
      (∀ i : Fin 8, FieldsInRange s.loadedParams.profiles[i] ∧ Installed s.loadedParams.profiles[i]) ∧
      ∀ c : Fin 16, s.loadedParams.masks[c][(0 : FrameSlot)] = true := by
  refine ⟨s.loadedParams_general, fun i => ?_, fun c => ?_⟩
  · simpa [State.loadedParams] using (s.rawProfile i).adjusted_inRange
  · simpa [State.loadedParams] using RawCode.compile_zero (c := s.rawCode c) rfl

end Sys2Proof.Machine
end

section
/-! PROOFS. What the stages of a slot boundary, a parameter load and the failure hand-off leave of the shelf: the
steady part, which no line's operation reaches. -/

namespace Sys2Proof.Machine

open Sys2Proof.Safety

/-- Line n has an entry in one of the two ring lists (R93, R104). -/
def Scheduler.Lists (k : Scheduler) (n : LineNo) : Prop :=
  n ∈ k.bookings.map Booking.line ∨ n ∈ k.waits.map WaitEntry.line

/-- R33, R34: every line of an absent card is OUT OF SERVICE and in neither ring list. -/
def CardsOut (s : State) : Prop :=
  AbsentLinesOut s ∧ ∀ n, s.sched.Lists n → s.cardPresent n = true

/-- With consistent ring lists the lines in them are RINGING or in RING WAIT, so their cards are present. -/
theorem cardsOut_of_consistent {s : State} (hr : RingListsConsistent s) (ha : AbsentLinesOut s) :
    CardsOut s := by
  obtain ⟨-, -, ⟨hb, hw, -, -⟩, -⟩ := hr
  refine ⟨ha, fun n hn => ?_⟩
  by_contra hc
  have hout := ha n (by simpa using hc)
  rcases hn with hn | hn
  · have hst := (hb n).1 hn
    rw [hout] at hst
    cases hst
  · have hst := (hw n).1 hn
    rw [hout] at hst
    cases hst

/-- What a stage that works on lines and their ring entries leaves of the shelf: RUN, the shelf state, the
clocks, the source, the latch and the cards; no attention bit is lost, and the lines of absent cards and the
ranges stay as the invariants say. -/
structure Steady (s t : State) : Prop where
  run : t.port.run = s.port.run
  shelf : t.control.shelf = s.control.shelf
  startingEnd : t.control.startingEnd = s.control.startingEnd
  slot : t.sched.slot = s.sched.slot
  nextBoundary : t.sched.nextBoundary = s.sched.nextBoundary
  source : t.source = s.source
  latch : t.latch = s.latch
  slots : t.slots = s.slots
  attention : ∀ n, s.attentionBit n = true → t.attentionBit n = true
  cards : CardsOut s → CardsOut t
  ranges : ValuesInRange s → ValuesInRange t

theorem Steady.refl (s : State) : Steady s s :=
  ⟨rfl, rfl, rfl, rfl, rfl, rfl, rfl, rfl, fun _ => id, id, id⟩

theorem Steady.trans {s t u : State} (h : Steady s t) (h' : Steady t u) : Steady s u where
  run := h'.run.trans h.run
  shelf := h'.shelf.trans h.shelf
  startingEnd := h'.startingEnd.trans h.startingEnd
  slot := h'.slot.trans h.slot
  nextBoundary := h'.nextBoundary.trans h.nextBoundary
  source := h'.source.trans h.source
  latch := h'.latch.trans h.latch
  slots := h'.slots.trans h.slots
  attention n := h'.attention n ∘ h.attention n
  cards := h'.cards ∘ h.cards
  ranges := h'.ranges ∘ h.ranges

theorem Steady.cardPresent {s t : State} (h : Steady s t) (n : LineNo) :
    t.cardPresent n = s.cardPresent n := by
  unfold State.cardPresent
  rw [h.slots]

/-! ### An operation of one line -/

theorem mem_map_of_filter_eq {α : Type} {line : α → LineNo} {n m : LineNo} {as bs : List α}
    (h : as.filter (fun a => decide (line a ≠ n)) = bs.filter fun b => decide (line b ≠ n))
    (hm : m ≠ n) (hmem : m ∈ as.map line) : m ∈ bs.map line := by
  obtain ⟨a, ha, rfl⟩ := List.mem_map.1 hmem
  have hf : a ∈ as.filter fun a => decide (line a ≠ n) := List.mem_filter.2 ⟨ha, by simpa using hm⟩
  rw [h] at hf
  exact List.mem_map_of_mem (List.mem_filter.1 hf).1

/-- An operation of line n lists no other line. -/
theorem lists_of_otherLinesKept {n m : LineNo} {s t : State} (h : OtherLinesKept n s t) (hm : m ≠ n)
    (hl : t.sched.Lists m) : s.sched.Lists m :=
  hl.imp (mem_map_of_filter_eq h.2.1 hm) (mem_map_of_filter_eq h.2.2 hm)

theorem Touches.attentionBit {n : LineNo} {s t : State} (h : Touches n s t) (m : LineNo)
    (hm : s.attentionBit m = true) : t.attentionBit m = true := by
  by_cases hmn : m = n
  · subst hmn
    exact h.attention hm
  · unfold State.attentionBit
    rwa [h.others.1 m hmn]

/-- The lines of absent cards stay out where line n's card is present, or where line n itself stays out. -/
theorem Touches.absentLinesOut {n : LineNo} {s t : State} (h : Touches n s t)
    (hn : s.cardPresent n = false → s.stateOf n = .outOfService → t.stateOf n = .outOfService)
    (ha : AbsentLinesOut s) : AbsentLinesOut t := by
  intro m hm
  rw [h.shelf.cardPresent m] at hm
  by_cases hmn : m = n
  · subst hmn
    exact hn hm (ha m hm)
  · unfold State.stateOf
    rw [h.others.1 m hmn]
    exact ha m hm

theorem Touches.cardsOut {n : LineNo} {s t : State} (h : Touches n s t) (hn : s.cardPresent n = true)
    (hc : CardsOut s) : CardsOut t := by
  refine ⟨h.absentLinesOut (fun hf => absurd hn (by simp [hf])) hc.1, fun m hm => ?_⟩
  rw [h.shelf.cardPresent m]
  by_cases hmn : m = n
  · exact hmn ▸ hn
  · exact hc.2 m (lists_of_otherLinesKept h.others hmn hm)

/-- Ranges stay where the memory and Shelf Control do, and each line stays in range. -/
theorem valuesInRange_of_lines {s t : State} (hport : t.port.mem = s.port.mem)
    (hparams : t.control.params = s.control.params)
    (hlines : ∀ n, (s.line n).InRange → (t.line n).InRange) (h : ValuesInRange s) : ValuesInRange t := by
  obtain ⟨hmem, hp, hc⟩ := h
  refine ⟨?_, ?_, ?_⟩
  · unfold MemoryCanonical
    rwa [hport]
  · unfold ParamsInRange
    rwa [hparams]
  · rw [classifierInRange_iff] at hc ⊢
    exact fun n => hlines n (hc n)

theorem Touches.ranges {n : LineNo} {s t : State} (h : Touches n s t)
    (hn : (s.line n).InRange → (t.line n).InRange) (hr : ValuesInRange s) : ValuesInRange t := by
  refine valuesInRange_of_lines (by rw [h.shelf.port]) (by rw [h.shelf.control]) (fun m hm => ?_) hr
  by_cases hmn : m = n
  · subst hmn
    exact hn hm
  · rwa [h.others.1 m hmn]

/-- An operation of a line whose card is present keeps the shelf steady. -/
theorem Steady.works {s₀ s t : State} {n : LineNo} (h₀ : Steady s₀ s) (h : Works n s t)
    (hn : CardsOut s₀ → s₀.cardPresent n = true) : Steady s₀ t := by
  obtain ⟨hport, hcontrol, -, hslots, hslot, hnext, hsource, hlatch, -, -⟩ := h.touches.shelf
  exact {
    run := by rw [hport, h₀.run]
    shelf := by rw [hcontrol, h₀.shelf]
    startingEnd := by rw [hcontrol, h₀.startingEnd]
    slot := hslot.trans h₀.slot
    nextBoundary := hnext.trans h₀.nextBoundary
    source := hsource.trans h₀.source
    latch := hlatch.trans h₀.latch
    slots := hslots.trans h₀.slots
    attention := fun m hm => h.touches.attentionBit m (h₀.attention m hm)
    cards := fun hc => h.touches.cardsOut ((h₀.cardPresent n).trans (hn hc)) (h₀.cards hc)
    ranges := fun hr => h.touches.ranges h.range (h₀.ranges hr) }

/-- So do operations of several lines, one after the other. -/
theorem Steady.foldl_works {s₀ s : State} {f : State → LineNo → State} (hf : ∀ s n, Works n s (f s n))
    {ns : List LineNo} (h₀ : Steady s₀ s) (hn : CardsOut s₀ → ∀ n ∈ ns, s₀.cardPresent n = true) :
    Steady s₀ (ns.foldl f s) := by
  induction ns generalizing s with
  | nil => exact h₀
  | cons n ns ih =>
    exact ih (h₀.works (hf s n) fun hc => hn hc n (by simp)) fun hc m hm => hn hc m (by simp [hm])

/-! ### The ring lists, all lines at once, and the parameter load -/

theorem steady_lists {s : State} {sched : Scheduler} (hslot : sched.slot = s.sched.slot)
    (hnext : sched.nextBoundary = s.sched.nextBoundary)
    (hl : ∀ n, sched.Lists n → s.sched.Lists n) : Steady s { s with sched := sched } :=
  ⟨rfl, rfl, rfl, hslot, hnext, rfl, rfl, rfl, fun _ => id,
    fun hc => ⟨hc.1, fun n hn => hc.2 n (hl n hn)⟩, id⟩

/-- A change of entries that leaves their lines leaves the list of them. -/
theorem map_line_map {α : Type} {line : α → LineNo} {f : α → α} (hf : ∀ a, line (f a) = line a)
    (as : List α) : (as.map f).map line = as.map line := by
  rw [List.map_map]
  exact List.map_congr_left fun a _ => hf a

theorem steady_mapLines {s : State} {g : LineNo → Line → Line}
    (hk : ∀ n, (s.line n).Keeps (g n (s.line n)))
    (hout : ∀ n, s.stateOf n = .outOfService → (g n (s.line n)).sup.state = .outOfService) :
    Steady s (s.mapLines g) where
  run := by simp
  shelf := by simp
  startingEnd := by simp
  slot := by simp
  nextBoundary := by simp
  source := by simp
  latch := by simp
  slots := by simp
  attention n hn := by
    unfold State.attentionBit
    rw [State.mapLines_line]
    exact (hk n).attention hn
  cards hc := by
    refine ⟨fun n hn => ?_, fun n hn => ?_⟩
    · rw [State.mapLines_cardPresent] at hn
      simpa [State.stateOf] using hout n (hc.1 n hn)
    · rw [State.mapLines_sched] at hn
      simpa using hc.2 n hn
  ranges := valuesInRange_of_lines (by simp) (by simp) fun n hn => by
    rw [State.mapLines_line]
    exact (hk n).range hn

theorem steady_writes (s : State) (ws : List BusWrite) : Steady s (s.writes ws) where
  run := by simp
  shelf := by simp
  startingEnd := by simp
  slot := by simp
  nextBoundary := by simp
  source := by simp
  latch := by simp
  slots := by simp
  attention n hn := by simpa [State.attentionBit] using hn
  cards hc := by simpa [CardsOut, AbsentLinesOut, State.cardPresent, State.stateOf] using hc
  ranges hr := by
    obtain ⟨hmem, hp, hc⟩ := hr
    exact ⟨State.writes_wf ws hmem, by simpa [ParamsInRange] using hp,
      by simpa [ClassifierInRange, State.stateOf] using hc⟩

theorem steady_landed (s : State) (early late : List BusWrite) : Steady s (s.landed early late) :=
  (steady_writes s early).trans (steady_writes _ late)

/-- R20: a load installs parameters in range, whatever was installed before. -/
theorem steady_loadParams (s : State) : Steady s s.loadParams where
  run := rfl
  shelf := rfl
  startingEnd := rfl
  slot := rfl
  nextBoundary := rfl
  source := rfl
  latch := rfl
  slots := rfl
  attention _ := id
  cards hc := by
    refine ⟨hc.1, fun n hn => hc.2 n (hn.imp id fun hw => ?_)⟩
    simpa [State.loadParams, WaitEntry.judged, Function.comp_def] using hw
  ranges hr := ⟨hr.1, s.loadedParams_inRange, hr.2.2⟩

theorem steady_loadMeeting (s : State) (early late : List BusWrite) :
    Steady s (s.loadMeeting early late) :=
  ((steady_writes s early).trans (steady_loadParams _)).trans (steady_writes _ late)

/-! ### The stages of a slot boundary (R109) -/

theorem steady_frameEnds (s : State) (c : FrameSlot) : Steady s (s.frameEnds c) := by
  refine (Steady.refl s).foldl_works (works_frameEnd c) fun hc n hn => hc.2 n (.inl ?_)
  obtain ⟨b, hb, rfl⟩ := List.mem_map.1 hn
  exact List.mem_map_of_mem (List.mem_filter.1 hb).1

/-- R112: a request sets the pending action alone. -/
theorem Booking.request_eq (b : Booking) (c : FrameSlot) (l : Line) :
    ∃ a, b.request c l = { l with rel.pending := a } := by
  unfold Booking.request
  split
  · exact ⟨_, rfl⟩
  · exact ⟨_, rfl⟩

theorem steady_relayRequests (s : State) (c : FrameSlot) : Steady s (s.relayRequests c) := by
  refine (steady_mapLines (fun n => ?_) fun n hn => ?_).trans (steady_lists rfl rfl fun n hn => ?_)
  · split
    · next b _ =>
      obtain ⟨a, ha⟩ := b.request_eq c (s.line n)
      rw [ha]
      exact .of_cls_eq rfl rfl id
    · exact .refl _
  · split
    · next b _ =>
      obtain ⟨a, ha⟩ := b.request_eq c (s.line n)
      rw [ha]
      exact hn
    · exact hn
  · refine hn.imp (fun hb => ?_) id
    rwa [State.mapLines_sched, ← map_line_map fun b => ?_]
    split <;> rfl

theorem steady_countWaits (s : State) (begun : List LineNo) : Steady s (s.countWaits begun) := by
  have hline (e : WaitEntry) :
      (if e.line ∈ begun then e.counted s.control.params.priorityAge else e).line = e.line := by
    split <;> rfl
  have hcount : Steady s { s with sched.waits := s.sched.waits.map fun e : WaitEntry =>
      if e.line ∈ begun then e.counted s.control.params.priorityAge else e } := by
    refine steady_lists rfl rfl fun n hn => hn.imp id fun hw => ?_
    rwa [← map_line_map hline]
  refine hcount.foldl_works works_endWait fun hc n hn => hc.2 n (.inr ?_)
  obtain ⟨e, he, rfl⟩ := List.mem_map.1 hn
  rw [← map_line_map hline]
  exact List.mem_map_of_mem (List.mem_filter.1 he).1

theorem Steady.evictLines {s₀ s : State} (bs : List Booking) (rank : Nat) (h₀ : Steady s₀ s)
    (hb : CardsOut s₀ → ∀ b ∈ bs, s₀.cardPresent b.line = true) :
    Steady s₀ (s.evictLines bs rank) := by
  induction bs generalizing s rank with
  | nil => exact h₀
  | cons b bs ih =>
    exact ih (rank + 1) (h₀.works (works_evictLine s b _) fun hc => hb hc b (by simp))
      fun hc x hx => hb hc x (by simp [hx])

theorem works_reportQueued (s : State) (n : LineNo) (cause : QueueCause) :
    Works n s (s.reportQueued n cause) := works_report s n _

theorem steady_evict (s : State) : Steady s s.evict := by
  unfold State.evict
  dsimp only
  generalize s.sched.bookings.length - evictCount s.control.params.capacity s.sched.bookings.reverse
    s.sched.loads = k
  have hevicted (hc : CardsOut s) : ∀ b ∈ s.sched.bookings.drop k, s.cardPresent b.line = true :=
    fun b hb => hc.2 _ (.inl (List.mem_map_of_mem (List.mem_of_mem_drop hb)))
  have hkept : Steady s { s with
      sched.bookings := s.sched.bookings.take k
      sched.loads := (s.sched.bookings.drop k).foldl subLoad s.sched.loads } := by
    refine steady_lists rfl rfl fun n hn => hn.imp (fun hb => ?_) id
    exact List.map_subset Booking.line (List.take_subset k _) hb
  refine (hkept.evictLines _ 1 hevicted).foldl_works (fun t n => ?_) fun hc n hn => ?_
  · split
    · exact works_reportQueued t n _
    · exact .refl n t
  · obtain ⟨b, hb, rfl⟩ := List.mem_map.1 hn
    exact hevicted hc b hb

theorem steady_reloadChanges (s : State) : Steady s s.reloadChanges := by
  refine steady_lists rfl rfl fun n hn => hn.imp (fun hb => ?_) id
  rwa [← map_line_map fun b => ?_]
  split <;> rfl

theorem steady_reloadCheck (s : State) (early late : List BusWrite) :
    Steady s (s.reloadCheck early late) := by
  unfold State.reloadCheck
  split
  · exact steady_landed s early late
  · exact ((steady_loadMeeting s early late).trans (steady_evict _)).trans (steady_reloadChanges _)

theorem Steady.walk {s₀ s : State} (c : FrameSlot) (es : List WaitEntry) (h₀ : Steady s₀ s)
    (he : CardsOut s₀ → ∀ e ∈ es, s₀.cardPresent e.line = true) : Steady s₀ (State.walk c es s) := by
  induction es generalizing s with
  | nil => exact h₀
  | cons e es ih =>
    have hrest : CardsOut s₀ → ∀ x ∈ es, s₀.cardPresent x.line = true :=
      fun hc x hx => he hc x (by simp [hx])
    unfold State.walk
    split
    · exact ih (h₀.works (works_walkBook s c e _) fun hc => he hc e (by simp)) hrest
    · split
      · exact h₀
      · exact ih h₀ hrest

theorem steady_boundaryTail (s : State) (c : FrameSlot) (begun : List LineNo)
    (early late : List BusWrite) : Steady s (s.boundaryTail c begun early late) := by
  have hwalk (t : State) : Steady t (if t.source.state = .running then State.walk c t.sched.waits t
      else t) := by
    split
    · exact (Steady.refl t).walk c _ fun hc e he => hc.2 _ (.inr (List.mem_map_of_mem he))
    · exact .refl t
  unfold State.boundaryTail
  dsimp only
  refine .trans ?_ (hwalk _)
  split
  · exact (steady_countWaits s begun).trans (steady_reloadCheck _ early late)
  · exact steady_landed s early late

/-- R91, R109: a boundary sets the slot clock, and the rest of it keeps the shelf steady. -/
theorem steady_boundary (s : State) (first : Bool) (time : Nat) (early late : List BusWrite) :
    Steady { s with
      sched.slot := s.nextSlot first, sched.nextBoundary := some (time + Config.slotMs) }
      (s.boundary first time early late) :=
  ((steady_frameEnds _ _).trans (steady_relayRequests _ _)).trans (steady_boundaryTail _ _ _ early late)

/-! ### Crossings and the failure hand-off (R125, R126, R133) -/

theorem steady_relayCrossing (s : State) (now : Instant) : Steady s (s.relayCrossing now) :=
  steady_mapLines (fun _ => Line.keeps_atCrossing _ now _) fun _ hn =>
    (Line.atCrossing_state _ now _).trans hn

theorem steady_failSource (s : State) (now : Instant) : Steady s (s.failSource now) := by
  have hlines : Steady s (s.mapLines fun _ l => l.atFailure now s.control.params.guardTime) :=
    steady_mapLines (fun _ => Line.keeps_atFailure _ now _) fun _ hn =>
      (Line.atFailure_state _ now _).trans hn
  unfold State.failSource
  dsimp only
  refine Steady.foldl_works works_queueDown (hlines.trans (steady_lists ?_ ?_ fun n hn => ?_))
    fun hc n hn => hc.2 n (.inl ?_)
  · rfl
  · rfl
  · simpa [Scheduler.Lists, Booking.toWait, newWait, Function.comp_def] using hn
  · simpa using hn

end Sys2Proof.Machine
end

section
/-! PROOFS. What a command can do, said once for the commands of one line and for the shelf's own operations. -/

namespace Sys2Proof.Machine

open Sys2Proof.Safety

/-! ### The commands of one line -/

/-- An order's row is the taking of an order, as its owner answers it (log 8). -/
theorem exec_orderRow {i : Instr} {n : LineNo} {kind seq : Byte} (h : orderRow i = some (n, kind, seq))
    (s : State) : ∃ o now, exec i s = .next (s.order n kind seq (s.answer n o now)) := by
  cases i <;> simp only [orderRow, reduceCtorEq, Option.some.injEq, Prod.mk.injEq,
    Option.ite_none_right_eq_some] at h
  case badKind _ _ k =>
    obtain ⟨h8, rfl, rfl, rfl⟩ := h
    exact ⟨.badKind k, 0, by simp [exec, execBadKind, h8, State.answer]⟩
  all_goals obtain ⟨rfl, rfl, rfl⟩ := h
  case note => exact ⟨.note, 0, rfl⟩
  case serviceOn => exact ⟨.service 1, 0, rfl⟩
  case serviceOff => exact ⟨.service 0, 0, rfl⟩
  case configure bytes => exact ⟨.configure bytes, 0, rfl⟩
  case ring party maxFrames => exact ⟨.ring party maxFrames, 0, rfl⟩
  case stop => exact ⟨.stop, 0, rfl⟩
  case connect => exact ⟨.connect, 0, rfl⟩
  case release tone => exact ⟨.release tone, 0, rfl⟩
  case test us => exact ⟨.test, s.instantAt us, rfl⟩

/-- A command of one line that is no order is a BAD_KIND of a kind below 8, which does nothing, or a sample
arrival where what it names comes about (log 6). -/
theorem exec_sampleRow {i : Instr} {n : LineNo} (h : lineOf i = some n) (ho : orderRow i = none)
    (s : State) : (∃ seq kind, i = .badKind n seq kind ∧ exec i s = .next s) ∨
      ∃ due a, exec i s = .next (s.arrivalIf due n a) := by
  cases i <;> simp only [orderRow, reduceCtorEq, ite_eq_right_iff, imp_false] at ho <;>
    simp only [lineOf, reduceCtorEq, Option.some.injEq] at h <;> subst h
  case badKind seq kind =>
    exact .inl ⟨seq, kind, rfl, by simp only [exec, execBadKind, if_neg ho]⟩
  case sampleArrival answer => exact .inr ⟨true, answer, rfl⟩
  all_goals exact .inr ⟨_, _, rfl⟩

/-- A command of one line does nothing, takes an order of the line, or is a sample arrival at it. -/
theorem exec_line_cases {i : Instr} {n : LineNo} (h : lineOf i = some n) (s : State) :
    exec i s = .next s ∨
      (∃ o now kind seq, exec i s = .next ((s.answer n o now).taken n kind seq)) ∨
      ∃ a, s.delivers n = true ∧ exec i s = .next (s.arrival n a) := by
  cases ho : orderRow i with
  | some row =>
    obtain ⟨m, kind, seq⟩ := row
    have hm : m = n := by
      cases i <;> simp only [orderRow, reduceCtorEq, Option.some.injEq, Prod.mk.injEq,
        Option.ite_none_right_eq_some] at ho <;>
        simp only [lineOf, Option.some.injEq] at h <;> simp_all
    subst hm
    obtain ⟨o, now, hexec⟩ := exec_orderRow ho s
    rcases s.order_cases m kind seq (s.answer m o now) with hs | ⟨-, ht⟩
    · exact .inl (hexec.trans (congrArg _ hs))
    · exact .inr (.inl ⟨o, now, kind, seq, hexec.trans (congrArg _ ht)⟩)
  | none =>
    rcases exec_sampleRow h ho s with ⟨_, _, -, hexec⟩ | ⟨due, a, hexec⟩
    · exact .inl hexec
    · rcases s.arrivalIf_cases due n a with hs | ha
      · exact .inl (hexec.trans (congrArg _ hs))
      · cases hd : s.delivers n with
        | true => exact .inr (.inr ⟨a, rfl, hexec.trans (congrArg _ ha)⟩)
        | false =>
          have harrival : s.arrival n a = s := by simp [State.arrival, hd]
          exact .inl (by rw [hexec, ha, harrival])

/-- R24: a line that receives a sample has its card present. -/
theorem State.cardPresent_of_delivers {s : State} {n : LineNo} (h : s.delivers n = true) :
    s.cardPresent n = true := by
  unfold State.delivers at h
  exact (Bool.and_eq_true _ _ ▸ h).2

/-! ### The shelf's own operations, as to the ranges -/

theorem State.line_congr {s t : State} (h : t.lines = s.lines) (n : LineNo) : t.line n = s.line n := by
  unfold State.line
  rw [h]

/-- The ranges speak of the stored bytes, the parameters and the lines alone. -/
theorem valuesInRange_congr {s t : State} (hmem : t.port.mem = s.port.mem)
    (hparams : t.control.params = s.control.params) (hlines : t.lines = s.lines)
    (h : ValuesInRange s) : ValuesInRange t :=
  valuesInRange_of_lines hmem hparams (fun n hn => by rwa [State.line_congr hlines n]) h

theorem Line.keeps_startRun (l : Line) : l.Keeps l.startRun := by
  unfold Line.startRun
  split
  · exact .refl l
  · exact l.keeps_enterLearning

theorem Line.startRun_out {l : Line} (h : l.sup.state = .outOfService) : l.startRun = l := if_pos h

theorem Line.halted_out {l : Line} (h : l.sup.state = .outOfService) :
    l.halted.sup.state = .outOfService := if_pos h

/-- The lines of a started shelf, with the load that its writes meet: all else of a start is Shelf Control's
and the Monitor's. -/
theorem steady_startLines (s : State) (early late : List BusWrite) :
    Steady s ((s.loadMeeting early late).mapLines fun _ l => l.startRun) :=
  (steady_loadMeeting s early late).trans
    (steady_mapLines (fun _ => Line.keeps_startRun _) fun _ h => by rw [Line.startRun_out h]; exact h)

theorem steady_haltLines (s : State) : Steady s (s.mapLines fun _ l => l.halted) :=
  steady_mapLines (fun _ => Line.keeps_halted _) fun _ h => Line.halted_out h

theorem haltShelf_ranges {s : State} (h : ValuesInRange s) : ValuesInRange s.haltShelf :=
  valuesInRange_congr (s := s.mapLines fun _ l => l.halted) rfl rfl rfl ((steady_haltLines s).ranges h)

theorem startShelf_ranges {s : State} (early late : List BusWrite) (h : ValuesInRange s) :
    ValuesInRange (s.startShelf early late) :=
  valuesInRange_congr (s := (s.loadMeeting early late).mapLines fun _ l => l.startRun) rfl rfl rfl
    ((steady_startLines s early late).ranges h)

theorem writeControl_ranges {s : State} (run ie : Bool) (early late : List BusWrite)
    (h : ValuesInRange s) : ValuesInRange (s.writeControl run ie early late) := by
  have h1 : ValuesInRange { s with port.run := run, port.interruptEnable := ie } := h
  unfold State.writeControl
  dsimp only
  split
  · split
    · exact startShelf_ranges early late h1
    · exact (steady_landed _ early late).ranges h1
  · split
    · exact h1
    · exact haltShelf_ranges h1

theorem softReset_line (s : State) (n : LineNo) :
    s.softReset.line n = (s.haltShelf.line n).softReset (s.takenCount n) :=
  (State.line_congr rfl n).trans
    (State.mapLines_line s.haltShelf (fun n l => l.softReset (s.takenCount n)) n)

theorem Line.softReset_inRange {l : Line} (taken : Byte) (h : l.InRange) :
    (l.softReset taken).InRange := by
  obtain ⟨⟨-, hr, ht, hl, hm⟩, -⟩ := h
  exact Line.inRange_of_not_learning ⟨Nat.zero_le _, hr, ht, hl, hm⟩ (by simp [Line.softReset])

theorem softReset_ranges {s : State} (h : ValuesInRange s) : ValuesInRange s.softReset :=
  valuesInRange_of_lines (by simp [State.softReset, State.haltShelf]) (by simp [State.softReset])
    (fun n hn => by rw [softReset_line]; exact Line.softReset_inRange _ hn) (haltShelf_ranges h)

theorem Line.keeps_cardLost (l : Line) (p : Params) (time : Nat) : l.Keeps (l.cardLost p time) := by
  unfold Line.cardLost
  dsimp only
  refine .trans (l' := if l.sup.state = .testing then
    l.outOfService.append p time (.testResult .abandoned 0) .outOfService else l.outOfService) ?_
    (Line.keeps_append _ _ _ _ _)
  split
  · exact l.keeps_outOfService.trans (Line.keeps_append _ _ _ _ _)
  · exact l.keeps_outOfService

theorem Line.cardLost_state (l : Line) (p : Params) (time : Nat) :
    (l.cardLost p time).sup.state = .outOfService := by
  unfold Line.cardLost
  dsimp only
  split <;> rfl

theorem loseCard_keeps (s : State) (c : CardNo) (n : LineNo) :
    (s.line n).Keeps ((s.loseCard c).line n) := by
  simp only [State.loseCard, State.mapLines_line, State.dropWaits_line, State.dropBookings_line,
    State.updSlot_line]
  split
  · exact Line.keeps_cardLost _ _ _
  · exact .refl _

theorem returnCard_line (s : State) (c : CardNo) (n : LineNo) :
    (s.returnCard c).line n = if cardOf n = c then
      (s.line n).append s.control.params s.shelfTime .cardBack .outOfService else s.line n :=
  (State.line_congr rfl n).trans (State.mapLines_line
    (s.updSlot c fun k => { k with presence := .present, deadline := none })
    (fun n l => if cardOf n = c then l.append s.control.params s.shelfTime .cardBack .outOfService else l) n)

theorem returnCard_keeps (s : State) (c : CardNo) (n : LineNo) :
    (s.line n).Keeps ((s.returnCard c).line n) := by
  rw [returnCard_line]
  split
  · exact Line.keeps_append _ _ _ _ _
  · exact .refl _

theorem takeBoundary_ranges {s : State} (early late : List BusWrite) (h : ValuesInRange s) :
    ValuesInRange (s.takeBoundary early late) := by
  unfold State.takeBoundary
  split
  · exact (steady_boundary s false _ early late).ranges h
  · exact (steady_landed s early late).ranges h

theorem takeCrossing_ranges {s : State} (now : Instant) (h : ValuesInRange s) :
    ValuesInRange (s.takeCrossing now) := by
  unfold State.takeCrossing
  dsimp only
  split
  · exact (steady_relayCrossing _ now).ranges h
  · exact h

theorem expireLoss_ranges {s : State} (now : Instant) (h : ValuesInRange s) :
    ValuesInRange (s.expireLoss now) := by
  unfold State.expireLoss
  split
  case h_2 => exact (steady_failSource { s with source := .lost .failed } now).ranges h
  all_goals exact h

/-- R141: the taken count read leaves the classifiers and the states. -/
theorem readTakenCount_line (s : State) (n m : LineNo) :
    (s.readTakenCount n).line m =
      if m = n then { s.line n with rep := (s.line n).rep.visited (s.takenCount n) } else s.line m :=
  (State.line_congr rfl m).trans
    (State.updLine_line s n m fun l => { l with rep := l.rep.visited (s.takenCount n) })

theorem readTakenCount_ranges {s : State} (n : LineNo) (h : ValuesInRange s) :
    ValuesInRange (s.readTakenCount n) := by
  refine valuesInRange_of_lines (s := s) rfl rfl (fun m hm => ?_) h
  rw [readTakenCount_line]
  split
  · next heq => exact heq ▸ hm
  · exact hm

theorem consistentRead_ranges {s : State} (n : LineNo) (now : Instant) (early late : List BusWrite)
    (h : ValuesInRange s) : ValuesInRange (s.consistentRead n now early late) := by
  have hw : ValuesInRange ((s.writes early).writes late) := (steady_landed s early late).ranges h
  unfold State.consistentRead
  dsimp only
  split
  · have ht := (works_answer ((s.writes early).writes late) n
      ((s.writes early).mailOrder n) now).taken ((s.writes early).mailOrder n).kind (s.mailSequence n)
    exact ht.touches.ranges ht.range hw
  · exact hw

theorem visit_ranges {s : State} (now : Instant) (early late : List BusWrite) (h : ValuesInRange s) :
    ValuesInRange (s.visit now early late) := by
  have h1 := readTakenCount_ranges s.visitPointer h
  unfold State.visit
  dsimp only
  split
  · exact consistentRead_ranges _ now early late h1
  · exact (steady_landed _ early late).ranges h1

/-- What power-on leaves is in range, the profile and the mask of an all-zero block among it. -/
theorem powerOn_ranges (seated : Byte) : ValuesInRange (State.powerOn seated) := by
  have hprofile : FieldsInRange Profile.fromZero ∧ Installed Profile.fromZero := by
    simp [FieldsInRange, Installed, Profile.fromZero]
  refine ⟨rfl, ⟨?_, fun i => ?_, fun c => ?_⟩, classifierInRange_iff.2 fun n => ?_⟩
  · simp [GeneralInRange, State.powerOn, Params.fromZero]
  · simpa [State.powerOn, Params.fromZero] using hprofile
  · simp [State.powerOn, Params.fromZero, Mask.fromZero]
  · have hline : (State.powerOn seated).line n = .powerOn := by simp [State.powerOn, State.line]
    rw [hline]
    exact Line.inRange_of_not_learning (by unfold Classifier.InRange; decide) (by decide)

/-! ### Every command keeps the ranges -/

theorem exec_line_ranges {i : Instr} {n : LineNo} (hi : lineOf i = some n) {s : State}
    (h : ValuesInRange s) : ∃ t, exec i s = .next t ∧ ValuesInRange t := by
  rcases exec_line_cases hi s with hs | ⟨o, now, kind, seq, ht⟩ | ⟨a, -, ha⟩
  · exact ⟨s, hs, h⟩
  · have hw := (works_answer s n o now).taken kind seq
    exact ⟨_, ht, hw.touches.ranges hw.range h⟩
  · have ⟨_, ⟨_, hp, _⟩, _⟩ := h
    exact ⟨_, ha, (touches_arrival s n a).ranges (arrival_inRange a (hp _).1) h⟩

theorem exec_ranges (i : Instr) {s : State} (h : ValuesInRange s) :
    ∃ t, exec i s = .next t ∧ ValuesInRange t := by
  have line {n : LineNo} (hi : lineOf i = some n) := exec_line_ranges hi h
  cases i
  case powerOn seated => exact ⟨_, rfl, powerOn_ranges seated⟩
  case shelfTimeTick => exact ⟨_, rfl, h⟩
  case workMemoryWrite w => exact ⟨_, rfl, (steady_writes s [w]).ranges h⟩
  case run ie early late => exact ⟨_, rfl, writeControl_ranges true ie early late h⟩
  case halt ie => exact ⟨_, rfl, writeControl_ranges false ie [] [] h⟩
  case softReset => exact ⟨_, rfl, softReset_ranges h⟩
  case interruptEnable v => exact ⟨_, rfl, writeControl_ranges _ v [] [] h⟩
  case shelfStatusRead => exact ⟨_, rfl, h⟩
  case attentionRegisterRead => exact ⟨_, rfl, h⟩
  case registerWriteIgnored => exact ⟨_, rfl, h⟩
  case startingEnd early late =>
    refine ⟨_, rfl, ?_⟩
    split
    · exact (steady_boundary { s with control.shelf := .running, control.startingEnd := none } true _
        early late).ranges h
    · exact (steady_landed s early late).ranges h
  case orderIntakeVisit us early late => exact ⟨_, rfl, visit_ranges _ early late h⟩
  case presenceChange c seated => exact ⟨_, rfl, h⟩
  case cardLost c =>
    refine ⟨_, rfl, ?_⟩
    split
    · exact valuesInRange_of_lines (by simp [State.loseCard]) (by simp [State.loseCard])
        (fun n => (loseCard_keeps s c n).range) h
    · exact h
  case cardBack c =>
    refine ⟨_, rfl, ?_⟩
    split
    · exact valuesInRange_of_lines (by simp [State.returnCard]) (by simp [State.returnCard])
        (fun n => (returnCard_keeps s c n).range) h
    · exact h
  case slotBoundary early late => exact ⟨_, rfl, takeBoundary_ranges early late h⟩
  case ringEndNoAnswer n early late =>
    refine ⟨_, rfl, ?_⟩
    split
    · exact takeBoundary_ranges early late h
    · exact (steady_landed s early late).ranges h
  case ringEndWaitLimit n early late =>
    refine ⟨_, rfl, ?_⟩
    split
    · exact takeBoundary_ranges early late h
    · exact (steady_landed s early late).ranges h
  case crossing us =>
    refine ⟨_, rfl, ?_⟩
    split
    · exact takeCrossing_ranges _ h
    · exact h
  case sourceQualified us =>
    refine ⟨_, rfl, ?_⟩
    split
    · exact takeCrossing_ranges _ h
    · exact h
  case lossDeadlineExpiry us =>
    refine ⟨_, rfl, ?_⟩
    split
    · exact expireLoss_ranges _ h
    · exact h
  all_goals exact line rfl

/-- A law that every command keeps, whatever the waiting commands, is kept by every step. -/
theorem step_keeps {P : State → Prop} {s t : State} (hidle : P s)
    (hexec : ∀ (i : Instr) (q : List Instr), ∃ u, exec i { s with pending := q } = .next u ∧ P u)
    (hstep : step s = .next t) : P t := by
  unfold step at hstep
  split at hstep
  · cases hstep
    exact hidle
  · next i rest _ =>
    obtain ⟨u, hu, hP⟩ := hexec i rest
    rw [hu] at hstep
    cases hstep
    exact hP

/-- Settles O59: every operation settles the classifier it touches, or is a sample's stage 2 with parameters in
range; the parameters are ones that a load has clamped and ordered. -/
theorem stepKeepsRanges : Obligations.StepKeepsRanges := fun s _ h hstep =>
  step_keeps h (fun i q => exec_ranges i (s := { s with pending := q }) h) hstep

end Sys2Proof.Machine
end

section
/-! PROOFS. O58: every step keeps RUN, the clocks, the source record, the absent cards and the latch consistent. -/

namespace Sys2Proof.Machine

open Sys2Proof.Safety

/-- RUN, the clocks, the source, the cards and the latch stay as the invariant says while the shelf is steady. -/
theorem Steady.shelfConsistent {s t : State} (h : Steady s t) (hc : CardsOut s)
    (hs : ShelfConsistent s) : ShelfConsistent t := by
  obtain ⟨hrun, ⟨hend, hclock, hslot, habsent⟩, hsource, -, hlatch⟩ := hs
  refine ⟨?_, ⟨?_, ?_, ?_, ?_⟩, ?_, (h.cards hc).1, fun n hn => h.attention n (hlatch n ?_)⟩
  · rwa [RunShowsShelf, h.run, h.shelf]
  · rwa [h.startingEnd, h.shelf]
  · rwa [h.nextBoundary, h.shelf]
  · rwa [h.slot, h.shelf]
  · rwa [h.source, h.shelf]
  · rwa [SourceConsistent, h.source]
  · rwa [← h.latch]

/-- So they do at an operation of one line that keeps the line of an absent card out. -/
theorem Touches.shelfConsistent {n : LineNo} {s t : State} (h : Touches n s t)
    (hn : s.cardPresent n = false → s.stateOf n = .outOfService → t.stateOf n = .outOfService)
    (hs : ShelfConsistent s) : ShelfConsistent t := by
  obtain ⟨hrun, hclocks, hsource, hout, hlatch⟩ := hs
  obtain ⟨hport, hcontrol, -, -, hslot, hnext, hsrc, hlat, -, -⟩ := h.shelf
  refine ⟨?_, ?_, ?_, h.absentLinesOut hn hout, fun m hm => h.attentionBit m (hlatch m ?_)⟩
  · rwa [RunShowsShelf, hport, hcontrol]
  · rwa [ShelfClocks, hcontrol, hslot, hnext, hsrc]
  · rwa [SourceConsistent, hsrc]
  · rwa [← hlat]

/-! ### The orders of a line whose card is absent -/

/-- R82, R83, R95, R136: no order brings a line of an absent card into service. -/
theorem answer_keeps_out {s : State} {n : LineNo} (o : Order) (now : Instant)
    (hc : s.cardPresent n = false) (ho : s.stateOf n = .outOfService) :
    (s.answer n o now).state.stateOf n = .outOfService := by
  cases o with
  | note => exact ho
  | service value =>
    simp only [State.answer, State.orderService, State.orderServiceOff, State.orderServiceOn, ho, hc]
    split
    · exact ho
    · split <;> exact ho
  | configure bytes =>
    simp only [State.answer, State.orderConfigure, ho]
    split
    · exact ho
    · simpa [State.stateOf, Line.installConfig] using ho
  | ring party maxFrames =>
    simp only [State.answer, State.orderRing, State.ringParty, hc]
    split <;> exact ho
  | stop =>
    simp only [State.answer, State.orderStop, ho]
    exact ho
  | connect =>
    simp only [State.answer, State.orderConnect, ho]
    exact ho
  | release tone =>
    simp only [State.answer, State.orderRelease, ho]
    split <;> exact ho
  | test =>
    simp only [State.answer, State.orderTest, hc]
    exact ho
  | badKind kind => exact ho

/-- A report leaves the supervision states. -/
theorem report_stateOf (s : State) (n m : LineNo) (r : Report) :
    (s.report n r).stateOf m = s.stateOf m := by
  unfold State.stateOf State.report
  rw [State.updLine_line]
  split
  · next h => rw [h, Line.append_sup]
  · rfl

/-- R13: what is recorded of an order leaves its line's state. -/
theorem taken_stateOf (a : Answer) (n : LineNo) (kind seq : Byte) :
    (a.taken n kind seq).stateOf n = a.state.stateOf n := by
  have hreports (rs : List Report) (t : State) :
      (rs.foldl (fun s r => s.report n r) t).stateOf n = t.stateOf n := by
    induction rs generalizing t with
    | nil => rfl
    | cons r rs ih => rw [List.foldl_cons, ih, report_stateOf]
  rw [Answer.taken, hreports, report_stateOf]
  simp [State.stateOf]

theorem taken_shelfConsistent {s : State} (n : LineNo) (o : Order) (now : Instant) (kind seq : Byte)
    (hs : ShelfConsistent s) : ShelfConsistent ((s.answer n o now).taken n kind seq) :=
  ((works_answer s n o now).taken kind seq).touches.shelfConsistent
    (fun hc ho => (taken_stateOf _ n kind seq).trans (answer_keeps_out o now hc ho)) hs

theorem exec_line_shelfConsistent {i : Instr} {n : LineNo} (hi : lineOf i = some n) {s : State}
    (hs : ShelfConsistent s) : ∃ t, exec i s = .next t ∧ ShelfConsistent t := by
  rcases exec_line_cases hi s with h | ⟨o, now, kind, seq, ht⟩ | ⟨a, hd, ha⟩
  · exact ⟨s, h, hs⟩
  · exact ⟨_, ht, taken_shelfConsistent n o now kind seq hs⟩
  · exact ⟨_, ha, (touches_arrival s n a).shelfConsistent
      (fun hc => absurd (State.cardPresent_of_delivers hd) (by simp [hc])) hs⟩

/-! ### A visit of Order Intake -/

/-- R143: a visit empties the latch where it clears the latched line's bit. -/
theorem readTakenCount_shelfConsistent {s : State} (n : LineNo) (hs : ShelfConsistent s) :
    ShelfConsistent (s.readTakenCount n) := by
  obtain ⟨hrun, hclocks, hsource, hout, hlatch⟩ := hs
  refine ⟨hrun, hclocks, hsource, fun m hm => ?_, fun m hm => ?_⟩
  · have hstate : (s.readTakenCount n).stateOf m = s.stateOf m := by
      unfold State.stateOf
      rw [readTakenCount_line]
      split
      · next h => rw [h]
      · rfl
    rw [hstate]
    exact hout m hm
  · have hl : (s.readTakenCount n).latch =
        if s.latch = some n ∧ (s.readTakenCount n).attentionBit n = false then none else s.latch := rfl
    rw [hl, Option.mem_def] at hm
    split at hm
    · cases hm
    · next hkept =>
      by_cases hmn : m = n
      · subst hmn
        simpa [hm] using hkept
      · unfold State.attentionBit
        rw [readTakenCount_line, if_neg hmn]
        exact hlatch m hm

theorem writes_shelfConsistent {s : State} (ws : List BusWrite) (hs : ShelfConsistent s) :
    ShelfConsistent (s.writes ws) := by
  obtain ⟨m, d, h⟩ := s.writes_eq ws
  rw [h]
  exact hs

theorem visit_shelfConsistent {s : State} (now : Instant) (early late : List BusWrite)
    (hs : ShelfConsistent s) : ShelfConsistent (s.visit now early late) := by
  have h1 := readTakenCount_shelfConsistent s.visitPointer hs
  have h2 := writes_shelfConsistent late (writes_shelfConsistent early h1)
  have hread : ShelfConsistent
      ((s.readTakenCount s.visitPointer).consistentRead s.visitPointer now early late) := by
    unfold State.consistentRead
    dsimp only
    split
    · exact taken_shelfConsistent _ _ now _ _ h2
    · exact h2
  unfold State.visit
  dsimp only
  split
  · exact hread
  · exact h2

/-! ### The shelf control register -/

/-- An idle Monitor has neither record nor count (R18, R122). -/
theorem sourceConsistent_of_lost {s : State} {st : SourceState} (hst : st = .absent ∨ st = .failed)
    (h : s.source = .lost st) : SourceConsistent s := by
  unfold SourceConsistent
  rw [h]
  rcases hst with rfl | rfl <;> simp [SourceMonitor.lost]

theorem State.cardPresent_congr {s t : State} (h : t.slots = s.slots) (n : LineNo) :
    t.cardPresent n = s.cardPresent n := by
  unfold State.cardPresent
  rw [h]

theorem haltShelf_shelfConsistent {s : State} (hrun : s.port.run = false) (hout : AbsentLinesOut s)
    (hlatch : LatchHasAttention s) : ShelfConsistent s.haltShelf := by
  have hline (n : LineNo) : s.haltShelf.line n = (s.line n).halted :=
    (State.line_congr (s := s.mapLines fun _ l => l.halted) (t := s.haltShelf) rfl n).trans (State.mapLines_line s _ n)
  refine ⟨?_, ⟨?_, ?_, fun _ => ?_, fun _ => ?_⟩, sourceConsistent_of_lost (.inl rfl) ?_,
    fun n hn => ?_, fun n hn => ?_⟩
  · simp [RunShowsShelf, State.haltShelf, hrun]
  · simp [State.haltShelf]
  · simp [State.haltShelf, Scheduler.idle]
  · simp [State.haltShelf, Scheduler.idle]
  · simp [State.haltShelf, SourceMonitor.idle, SourceMonitor.lost]
  · simp [State.haltShelf, SourceMonitor.idle]
  · rw [State.cardPresent_congr (s := s) (by simp [State.haltShelf])] at hn
    unfold State.stateOf
    rw [hline]
    exact Line.halted_out (hout n hn)
  · unfold State.attentionBit
    rw [hline]
    exact hlatch n (by simpa [State.haltShelf] using hn)

theorem startShelf_shelfConsistent {s : State} (early late : List BusWrite) (hrun : s.port.run = true)
    (hhalted : s.control.shelf = .halted) (hc : CardsOut s) (hclocks : ShelfClocks s)
    (hlatch : LatchHasAttention s) : ShelfConsistent (s.startShelf early late) := by
  have h := steady_startLines s early late
  have hline (n : LineNo) := State.line_congr
    (s := (s.loadMeeting early late).mapLines fun _ l => l.startRun) (t := s.startShelf early late) rfl n
  obtain ⟨-, hnext, hslot, -⟩ := hclocks
  refine ⟨?_, ⟨?_, ?_, fun _ => ?_, fun hoff => ?_⟩, sourceConsistent_of_lost (.inl rfl) ?_,
    fun n hn => ?_, fun n hn => ?_⟩
  · simp [RunShowsShelf, State.startShelf, hrun, State.loadMeeting, State.loadParams]
  · simp [State.startShelf]
  · have hb : (s.startShelf early late).sched.nextBoundary = s.sched.nextBoundary := by
      simp [State.startShelf, State.loadMeeting]
    rw [hb]
    simpa [State.startShelf, hhalted] using hnext
  · exact h.slot.trans (hslot (by simp [hhalted]))
  · simp [State.startShelf] at hoff
  · simp [State.startShelf, SourceMonitor.idle]
  · have hout := (h.cards hc).1 n ?_
    · unfold State.stateOf at hout ⊢
      rwa [hline]
    · rw [State.cardPresent_congr (s := s) (by simp [State.startShelf, State.loadMeeting])] at hn
      rwa [h.cardPresent n]
  · have hl : (s.startShelf early late).latch = s.latch := by simp [State.startShelf, State.loadMeeting]
    rw [hl] at hn
    unfold State.attentionBit
    rw [hline]
    exact h.attention n (hlatch n hn)

theorem writeControl_shelfConsistent {s : State} (run ie : Bool) (early late : List BusWrite)
    (hc : CardsOut s) (hs : ShelfConsistent s) : ShelfConsistent (s.writeControl run ie early late) := by
  obtain ⟨-, hclocks, hsource, hout, hlatch⟩ := hs
  unfold State.writeControl
  dsimp only
  split
  · next hrun =>
    split
    · next hhalted => exact startShelf_shelfConsistent early late hrun hhalted hc hclocks hlatch
    · next hon =>
      refine (steady_landed _ early late).shelfConsistent hc ⟨?_, hclocks, hsource, hout, hlatch⟩
      simpa [RunShowsShelf, hrun] using hon
  · next hrun =>
    split
    · next hhalted =>
      refine ⟨?_, hclocks, hsource, hout, hlatch⟩
      simpa [RunShowsShelf, hrun] using hhalted
    · exact haltShelf_shelfConsistent (by simpa using hrun) hout hlatch

theorem softReset_shelfConsistent (s : State) : ShelfConsistent s.softReset := by
  refine ⟨?_, ⟨?_, ?_, fun _ => ?_, fun _ => ?_⟩, sourceConsistent_of_lost (.inl rfl) ?_,
    fun n _ => ?_, fun n hn => ?_⟩
  · simp [RunShowsShelf, State.softReset, State.haltShelf]
  · simp [State.softReset, State.haltShelf]
  · simp [State.softReset, State.haltShelf, Scheduler.idle]
  · simp [State.softReset, State.haltShelf, Scheduler.idle]
  · simp [State.softReset, State.haltShelf, SourceMonitor.idle, SourceMonitor.lost]
  · simp [State.softReset, State.haltShelf, SourceMonitor.idle]
  · unfold State.stateOf
    rw [softReset_line]
    rfl
  · simp [State.softReset] at hn

/-! ### The slot clock -/

/-- R91: a shelf that enters or stays in RUNNING is consistent once its slot clock is set, and so after the
boundary. -/
theorem boundary_shelfConsistent {s : State} (first : Bool) (time : Nat) (early late : List BusWrite)
    (hrun : s.port.run = true) (hrunning : s.control.shelf = .running)
    (hend : s.control.startingEnd = none) (hc : CardsOut s) (hsource : SourceConsistent s)
    (hlatch : LatchHasAttention s) : ShelfConsistent (s.boundary first time early late) := by
  refine (steady_boundary s first time early late).shelfConsistent hc
    ⟨?_, ⟨?_, ?_, fun h => absurd hrunning h, fun h => ?_⟩, hsource, hc.1, hlatch⟩
  · simp [RunShowsShelf, hrun, hrunning]
  · simp [hend, hrunning]
  · simp [hrunning]
  · have h : s.control.shelf = .halted := h
    simp [hrunning] at h

theorem takeBoundary_shelfConsistent {s : State} (early late : List BusWrite) (hc : CardsOut s)
    (hs : ShelfConsistent s) : ShelfConsistent (s.takeBoundary early late) := by
  unfold State.takeBoundary
  split
  · next t ht =>
    obtain ⟨hrun, ⟨hend, -, -, -⟩, hsource, -, hlatch⟩ := hs
    have hrunning : s.control.shelf = .running := by
      by_contra h
      simp [State.boundaryDue, h] at ht
    refine boundary_shelfConsistent false t early late (hrun.2 (by simp [hrunning])) hrunning ?_ hc
      hsource hlatch
    simpa [hrunning] using hend
  · exact (steady_landed s early late).shelfConsistent hc hs

theorem enterRunning_shelfConsistent {s : State} (early late : List BusWrite)
    (hover : s.startingOver = true) (hc : CardsOut s) (hs : ShelfConsistent s) :
    ShelfConsistent (s.enterRunning early late) := by
  obtain ⟨hrun, -, hsource, -, hlatch⟩ := hs
  have hstarting : s.control.shelf = .starting := by
    simp only [State.startingOver, Bool.and_eq_true, decide_eq_true_eq] at hover
    exact hover.1
  exact boundary_shelfConsistent (s := { s with control.shelf := .running, control.startingEnd := none })
    true _ early late (hrun.2 (by simp [hstarting])) rfl rfl hc hsource hlatch

/-! ### The ring source -/

/-- R123: a crossing leaves the Monitor QUALIFYING with a count below 8, or RUNNING with one up to 8. -/
theorem crossed_consistent {s : State} (halfPeriod : Nat) (now : Instant) (h : SourceConsistent s) :
    SourceConsistent { s with source := s.source.crossed halfPeriod now } := by
  obtain ⟨-, -, hcount, hqual⟩ := h
  have hjudge : ((s.source.judge halfPeriod now).1 = .qualifying ∧
        (s.source.judge halfPeriod now).2 < 8) ∨
      ((s.source.judge halfPeriod now).1 = .running ∧ (s.source.judge halfPeriod now).2 ≤ 8) := by
    unfold SourceMonitor.judge
    split
    · exact .inl ⟨rfl, by decide⟩
    · exact .inl ⟨rfl, by decide⟩
    · exact .inr ⟨rfl, hcount⟩
    · next hq =>
      split
      · split
        · split
          · exact .inr ⟨rfl, hqual hq⟩
          · next hlow => exact .inl ⟨rfl, not_le.1 hlow⟩
        · exact .inl ⟨rfl, by decide⟩
      · exact .inl ⟨rfl, by decide⟩
  unfold SourceConsistent SourceMonitor.crossed
  rcases hjudge with ⟨hst, hct⟩ | ⟨hst, hct⟩
  · simp [hst, hct, hct.le]
  · simp [hst, hct]

theorem takeCrossing_shelfConsistent {s : State} (now : Instant) (hon : s.control.shelf ≠ .halted)
    (hc : CardsOut s) (hs : ShelfConsistent s) : ShelfConsistent (s.takeCrossing now) := by
  obtain ⟨hrun, ⟨hend, hnext, hslot, -⟩, hsource, hout, hlatch⟩ := hs
  have h1 : ShelfConsistent
      { s with source := s.source.crossed s.control.params.halfPeriod now } :=
    ⟨hrun, ⟨hend, hnext, hslot, fun h => absurd h hon⟩, crossed_consistent _ now hsource, hout, hlatch⟩
  unfold State.takeCrossing
  dsimp only
  split
  · exact (steady_relayCrossing _ now).shelfConsistent hc h1
  · exact h1

theorem expireLoss_shelfConsistent {s : State} (now : Instant) (hc : CardsOut s)
    (hs : ShelfConsistent s) : ShelfConsistent (s.expireLoss now) := by
  obtain ⟨hrun, ⟨hend, hnext, hslot, habsent⟩, hsource, hout, hlatch⟩ := hs
  unfold State.expireLoss
  split
  · exact ⟨hrun, ⟨hend, hnext, hslot, fun _ => rfl⟩, sourceConsistent_of_lost (.inl rfl) rfl, hout,
      hlatch⟩
  · next hst =>
    refine (steady_failSource { s with source := .lost .failed } now).shelfConsistent hc
      ⟨hrun, ⟨hend, hnext, hslot, fun h => ?_⟩, sourceConsistent_of_lost (.inr rfl) rfl, hout, hlatch⟩
    have hab := habsent h
    simp [hst] at hab
  · exact ⟨hrun, ⟨hend, hnext, hslot, habsent⟩, hsource, hout, hlatch⟩
  · exact ⟨hrun, ⟨hend, hnext, hslot, habsent⟩, hsource, hout, hlatch⟩

/-! ### The cards -/

/-- R34: a change of one card slot is seen by its own lines alone. -/
theorem updSlot_cardPresent (s : State) (c : CardNo) (f : CardSlot → CardSlot) (n : LineNo) :
    (s.updSlot c f).cardPresent n =
      if cardOf n = c then decide ((f s.slots[c]).presence = .present) else s.cardPresent n := by
  unfold State.cardPresent State.updSlot
  by_cases h : cardOf n = c
  · subst h
    simp
  · have hne : c.val ≠ (cardOf n).val := fun e => h (Fin.ext e.symm)
    simp [h, Vector.getElem_set_ne, hne]

theorem CardSlot.changed_presence (k : CardSlot) (seated : Bool) (now : Nat) :
    (k.changed seated now).presence = k.presence := by
  unfold CardSlot.changed
  split <;> rfl

theorem presenceChange_shelfConsistent {s : State} (c : CardNo) (seated : Bool)
    (hs : ShelfConsistent s) :
    ShelfConsistent (s.updSlot c fun k => k.changed seated s.shelfTime) := by
  obtain ⟨hrun, hclocks, hsource, hout, hlatch⟩ := hs
  refine ⟨hrun, hclocks, hsource, fun n hn => hout n ?_, hlatch⟩
  rw [updSlot_cardPresent, CardSlot.changed_presence] at hn
  split at hn
  · next h =>
    subst h
    exact hn
  · exact hn

theorem loseCard_shelfConsistent {s : State} (c : CardNo) (hs : ShelfConsistent s) :
    ShelfConsistent (s.loseCard c) := by
  obtain ⟨hrun, hclocks, hsource, hout, hlatch⟩ := hs
  refine ⟨?_, ?_, ?_, fun n hn => ?_, fun n hn => ?_⟩
  · simpa [RunShowsShelf, State.loseCard] using hrun
  · simpa [ShelfClocks, State.loseCard] using hclocks
  · simpa [SourceConsistent, State.loseCard] using hsource
  · simp only [State.loseCard, State.mapLines_cardPresent] at hn
    change (s.updSlot c fun k => { k with presence := .absent, deadline := none }).cardPresent n =
      false at hn
    rw [updSlot_cardPresent] at hn
    simp only [State.stateOf, State.loseCard, State.mapLines_line, State.dropWaits_line,
      State.dropBookings_line, State.updSlot_line]
    by_cases h : cardOf n = c
    · rw [if_pos h, Line.cardLost_state]
    · rw [if_neg h] at hn ⊢
      exact hout n hn
  · exact (loseCard_keeps s c n).attention (hlatch n (by simpa [State.loseCard] using hn))

theorem returnCard_shelfConsistent {s : State} (c : CardNo) (hs : ShelfConsistent s) :
    ShelfConsistent (s.returnCard c) := by
  obtain ⟨hrun, hclocks, hsource, hout, hlatch⟩ := hs
  refine ⟨?_, ?_, ?_, fun n hn => ?_, fun n hn => ?_⟩
  · simpa [RunShowsShelf, State.returnCard] using hrun
  · simpa [ShelfClocks, State.returnCard] using hclocks
  · simpa [SourceConsistent, State.returnCard] using hsource
  · have hcard : (s.returnCard c).cardPresent n =
        (s.updSlot c fun k => { k with presence := .present, deadline := none }).cardPresent n := by
      simp [State.cardPresent, State.returnCard]
    rw [hcard, updSlot_cardPresent] at hn
    unfold State.stateOf
    rw [returnCard_line]
    by_cases h : cardOf n = c
    · simp [h] at hn
    · rw [if_neg h] at hn ⊢
      exact hout n hn
  · exact (returnCard_keeps s c n).attention (hlatch n (by simpa [State.returnCard] using hn))

/-! ### Every command -/

theorem powerOn_shelfConsistent (seated : Byte) : ShelfConsistent (State.powerOn seated) := by
  refine ⟨?_, ⟨?_, ?_, fun _ => rfl, fun _ => rfl⟩, sourceConsistent_of_lost (.inl rfl) rfl,
    fun n _ => ?_, fun n hn => ?_⟩
  · simp [RunShowsShelf, State.powerOn]
  · simp [State.powerOn]
  · simp [State.powerOn]
  · simp [State.stateOf, State.line, State.powerOn, Line.powerOn]
  · simp [State.powerOn] at hn

/-- R143: a read of the attention register latches a line whose bit is set. -/
theorem readAttention_shelfConsistent {s : State} (hs : ShelfConsistent s) :
    ShelfConsistent s.readAttention := by
  obtain ⟨hrun, hclocks, hsource, hout, hlatch⟩ := hs
  refine ⟨hrun, hclocks, hsource, hout, fun n hn => ?_⟩
  change s.latchAfterRead = some n at hn
  change s.attentionBit n = true
  cases hl : s.latch with
  | some m =>
    simp only [State.latchAfterRead, hl, Option.orElse, Option.some.injEq] at hn
    exact hn ▸ hlatch m hl
  | none =>
    simp only [State.latchAfterRead, hl, Option.orElse] at hn
    exact List.find?_some hn

theorem exec_shelfConsistent (i : Instr) {s : State} (hr : RingListsConsistent s)
    (hs : ShelfConsistent s) : ∃ t, exec i s = .next t ∧ ShelfConsistent t := by
  have line {n : LineNo} (hi : lineOf i = some n) := exec_line_shelfConsistent hi hs
  have hc := cardsOut_of_consistent hr hs.2.2.2.1
  have landed (early late : List BusWrite) := (steady_landed s early late).shelfConsistent hc hs
  cases i
  case powerOn seated => exact ⟨_, rfl, powerOn_shelfConsistent seated⟩
  case shelfTimeTick => exact ⟨_, rfl, hs⟩
  case workMemoryWrite w => exact ⟨_, rfl, writes_shelfConsistent [w] hs⟩
  case run ie early late => exact ⟨_, rfl, writeControl_shelfConsistent true ie early late hc hs⟩
  case halt ie => exact ⟨_, rfl, writeControl_shelfConsistent false ie [] [] hc hs⟩
  case softReset => exact ⟨_, rfl, softReset_shelfConsistent s⟩
  case interruptEnable v => exact ⟨_, rfl, writeControl_shelfConsistent _ v [] [] hc hs⟩
  case shelfStatusRead => exact ⟨_, rfl, hs⟩
  case attentionRegisterRead => exact ⟨_, rfl, readAttention_shelfConsistent hs⟩
  case registerWriteIgnored => exact ⟨_, rfl, hs⟩
  case startingEnd early late =>
    refine ⟨_, rfl, ?_⟩
    split
    · next hover => exact enterRunning_shelfConsistent early late hover hc hs
    · exact landed early late
  case orderIntakeVisit us early late => exact ⟨_, rfl, visit_shelfConsistent _ early late hs⟩
  case presenceChange c seated => exact ⟨_, rfl, presenceChange_shelfConsistent c seated hs⟩
  case cardLost c =>
    refine ⟨_, rfl, ?_⟩
    split
    · exact loseCard_shelfConsistent c hs
    · exact hs
  case cardBack c =>
    refine ⟨_, rfl, ?_⟩
    split
    · exact returnCard_shelfConsistent c hs
    · exact hs
  case slotBoundary early late => exact ⟨_, rfl, takeBoundary_shelfConsistent early late hc hs⟩
  case ringEndNoAnswer n early late =>
    refine ⟨_, rfl, ?_⟩
    split
    · exact takeBoundary_shelfConsistent early late hc hs
    · exact landed early late
  case ringEndWaitLimit n early late =>
    refine ⟨_, rfl, ?_⟩
    split
    · exact takeBoundary_shelfConsistent early late hc hs
    · exact landed early late
  case crossing us =>
    refine ⟨_, rfl, ?_⟩
    split
    · next hon => exact takeCrossing_shelfConsistent _ (by simpa [State.takesCrossings] using hon) hc hs
    · exact hs
  case sourceQualified us =>
    refine ⟨_, rfl, ?_⟩
    split
    · next hq =>
      simp only [State.qualifiesAt, State.takesCrossings, Bool.and_eq_true, decide_eq_true_eq] at hq
      exact takeCrossing_shelfConsistent _ hq.1.1 hc hs
    · exact hs
  case lossDeadlineExpiry us =>
    refine ⟨_, rfl, ?_⟩
    split
    · exact expireLoss_shelfConsistent _ hc hs
    · exact hs
  all_goals exact line rfl

/-- Settles O58: an operation of a line keeps the shelf steady, since a line of an absent card stands in no ring
list; the shelf's own operations set the clocks and the source as the invariant says. -/
theorem stepKeepsShelf : Obligations.StepKeepsShelf := fun s _ hr hs hstep =>
  step_keeps hs (fun i q => exec_shelfConsistent i (s := { s with pending := q }) hr hs) hstep

end Sys2Proof.Machine
end

section
/-! PROOFS. O28: a command of one line touches that line alone, and sends one word where its setting changes.  An
order changes the setting once at most.  A sample may act on an event, a clear, an elapsed time and a deadline;
the proof follows these four in order and shows that no two of them change the setting. -/

namespace Sys2Proof.Machine

open Sys2Proof.Safety

/-! ### One change of one setting -/

/-- R130: a single change of line n's setting sends the words that the statement asks for. -/
theorem Touches.settingsSent {n : LineNo} {s t : State} (h : Touches n s t) (hs : Sends n s t) :
    SettingsSent s t := by
  refine ⟨_, hs, fun m => ?_⟩
  by_cases hm : m = n
  · subst hm
    by_cases hc : s.cardPresent m = true ∧ (t.line m).setting ≠ (s.line m).setting
    · rw [if_pos hc, relayWords, if_pos (by simp [hc.1, hc.2.symm])]
      simp
    · rw [if_neg hc]
      by_cases hp : s.cardPresent m = true
      · rw [relayWords_of_setting_eq _ _ (by_contra fun hne => hc ⟨hp, fun e => hne e.symm⟩)]
        rfl
      · simp [relayWords, hp]
  · rw [if_neg (by rw [h.others.1 m hm]; simp), List.filter_eq_nil_iff]
    intro x hx
    simpa [relayWords_line hx] using fun e : n = m => hm e.symm

/-- Line n's setting is as it was. -/
def Quiet (n : LineNo) (s t : State) : Prop := (t.line n).setting = (s.line n).setting

theorem Quiet.refl (n : LineNo) (s : State) : Quiet n s s := rfl

theorem Quiet.report {n : LineNo} {s t : State} (h : Quiet n s t) (r : Report) :
    Quiet n s (t.report n r) := (t.report_setting n r).trans h

theorem quiet_updLine {n : LineNo} {s : State} {f : Line → Line}
    (h : (f (s.line n)).setting = (s.line n).setting) : Quiet n s (s.updLine n f) := by
  rwa [Quiet, State.updLine_line_same]

/-- R130: from `s` to `t` line n is sent the one word that the change of its setting asks for, and no due
deadline of the line follows a change. -/
structure Once (n : LineNo) (s t : State) : Prop where
  sends : Sends n s t
  due : Quiet n s t ∨ t.deadlineDue n = none

theorem Works.once {n : LineNo} {s t : State} (h : Works n s t)
    (hd : Quiet n s t ∨ t.deadlineDue n = none) : Once n s t := ⟨h.sends, hd⟩

theorem Works.once_quiet {n : LineNo} {s t : State} (h : Works n s t) (hq : Quiet n s t) : Once n s t :=
  ⟨h.sends, .inl hq⟩

theorem Once.refl (n : LineNo) (s : State) : Once n s s := (Works.refl n s).once_quiet rfl

/-- What follows a part of the operation that leaves the setting. -/
theorem Once.after_quiet {n : LineNo} {s t u : State} (hw : Touches n s t) (hs : Sends n s t)
    (hq : Quiet n s t) (h : Once n t u) : Once n s u where
  sends := hs.quiet_then (hw.shelf.cardPresent n) hq h.sends
  due := h.due.imp (fun hu => Eq.trans hu hq) id

/-! ### Deadlines that are not due -/

theorem deadlineDue_of_none {s : State} {n : LineNo} (h : (s.line n).sup.deadline = none) :
    s.deadlineDue n = none := by
  simp only [State.deadlineDue, h]

/-- R67: a deadline set at this operation, 1 s to 120 s on, is not due at it. -/
theorem deadlineDue_of_future {s : State} {n : LineNo} {kind : DeadlineKind} {seconds : Nat}
    (h : (s.line n).sup.deadline = some (kind, BitVec.ofNat 32 (s.shelfTime + seconds * 1000)))
    (hpos : 0 < seconds) (hmax : seconds ≤ 120) : s.deadlineDue n = none := by
  have hfar : deadlineReached s.time32 (BitVec.ofNat 32 (s.shelfTime + seconds * 1000)) = false := by
    have hsub (x y : BitVec 32) : x - (x + y) = -y := by bv_omega
    have hfit : seconds * 1000 % 2 ^ 32 = seconds * 1000 := Nat.mod_eq_of_lt (by omega)
    have hneg : (2 ^ 32 - seconds * 1000) % 2 ^ 32 = 2 ^ 32 - seconds * 1000 :=
      Nat.mod_eq_of_lt (by omega)
    simp only [deadlineReached, State.time32, BitVec.ofNat_add, hsub, BitVec.toNat_neg,
      BitVec.toNat_ofNat, decide_eq_false_iff_not, hfit, hneg]
    omega
  simp only [State.deadlineDue, h, hfar]
  rfl

@[simp] theorem report_line_sup (s : State) (n : LineNo) (r : Report) :
    ((s.report n r).line n).sup = (s.line n).sup := by
  simp

/-! ### Tones and settings (R69) -/

/-- The tone that line n's state selects (R69). -/
def LineToneFits (s : State) (n : LineNo) : Prop := toneFits (s.stateOf n) (s.line n).rel.tone = true

theorem Line.enterFresh_setting {l : Line} (st : LineState) {tone : Tone} (h : l.rel.tone = tone) :
    (l.enterFresh st tone).setting = l.setting := by
  simp [Line.setting, h]

theorem Line.enter_setting {l : Line} (st : LineState) {tone : Tone} (h : l.rel.tone = tone) :
    (l.enter st tone).setting = l.setting := by
  simp [Line.setting, h]

/-- A state that selects no tone has none. -/
theorem LineToneFits.tone_none {s : State} {n : LineNo} {st : LineState} (h : LineToneFits s n)
    (hs : s.stateOf n = st) (hst : ∀ t, toneFits st t = decide (t = .none)) :
    (s.line n).rel.tone = .none := by
  rw [LineToneFits, hs, hst] at h
  simpa using h

/-! ### The items of a sample, one by one -/

theorem quiet_startSeizing {s : State} {n : LineNo} (hf : LineToneFits s n)
    (hs : s.stateOf n = .idle) : Quiet n s (s.startSeizing n) :=
  quiet_updLine (Line.enterFresh_setting _ (hf.tone_none hs fun _ => rfl))

theorem quiet_itemOpen {s : State} {n : LineNo} (hf : LineToneFits s n) :
    Quiet n s (s.itemOpen n) ∧ LineToneFits (s.itemOpen n) n := by
  unfold State.itemOpen
  split
  · next hs =>
    refine ⟨quiet_updLine (Line.enter_setting _ (hf.tone_none hs fun _ => rfl)), ?_⟩
    simp [LineToneFits, State.stateOf, toneFits]
  · exact ⟨rfl, hf⟩

/-- A clear leaves the line, or takes it to IDLE with no deadline. -/
theorem itemClear_cases (s : State) (n : LineNo) : s.itemClear n = s ∨
    ((s.itemClear n).stateOf n = .idle ∧ ((s.itemClear n).line n).sup.deadline = none) := by
  have hclear (t : State) :
      (t.clearLine n).stateOf n = .idle ∧ ((t.clearLine n).line n).sup.deadline = none := by
    simp [State.stateOf, State.clearLine]
  unfold State.itemClear
  split
  case h_2 => exact .inr (hclear _)
  case h_1 | h_3 | h_4 | h_5 | h_6 => exact .inr (hclear s)
  all_goals exact .inl rfl

theorem once_itemClear (s : State) (n : LineNo) : Once n s (s.itemClear n) := by
  refine (works_itemClear s n).once ((itemClear_cases s n).imp (fun h => ?_) fun h => ?_)
  · rw [h]
    exact .refl n s
  · exact deadlineDue_of_none h.2

/-- A change of the digits and the deadline changes no setting and leaves the state's tone. -/
theorem quiet_digits {s : State} {n : LineNo} {f : Line → Line} (hf : LineToneFits s n)
    (hrel : (f (s.line n)).rel = (s.line n).rel)
    (hst : (f (s.line n)).sup.state = (s.line n).sup.state) :
    Quiet n s (s.updLine n f) ∧ LineToneFits (s.updLine n f) n := by
  refine ⟨quiet_updLine (by simp [Line.setting, hrel]), ?_⟩
  unfold LineToneFits State.stateOf at *
  rwa [State.updLine_line_same, hrel, hst]

theorem fits_report {s : State} {n : LineNo} (r : Report) (h : LineToneFits s n) :
    LineToneFits (s.report n r) n := by
  unfold LineToneFits State.stateOf at *
  simpa using h

theorem quiet_then_report {s t : State} {n : LineNo} (r : Report)
    (h : Quiet n s t ∧ LineToneFits t n) :
    Quiet n s (t.report n r) ∧ LineToneFits (t.report n r) n :=
  ⟨h.1.report r, fits_report r h.2⟩

theorem quiet_pulseDialing {s : State} {n : LineNo} (hf : LineToneFits s n) :
    Quiet n s (s.pulseDialing n) ∧ LineToneFits (s.pulseDialing n) n := by
  unfold State.pulseDialing
  dsimp only
  split
  · exact ⟨rfl, hf⟩
  · split
    · exact quiet_then_report _ (quiet_digits hf rfl rfl)
    · exact quiet_digits hf rfl rfl

theorem quiet_gapDialing {s : State} {n : LineNo} (hf : LineToneFits s n) :
    Quiet n s (s.gapDialing n) ∧ LineToneFits (s.gapDialing n) n := by
  unfold State.gapDialing
  split
  · exact ⟨rfl, hf⟩
  · exact quiet_then_report _ (quiet_digits hf rfl rfl)

/-- R72 to R81: a confirmed close leaves the setting, or leaves the line in DIALING or IDLE with no deadline. -/
theorem itemClose_cases {s : State} {n : LineNo} (finished : Option (BreakClass × Nat))
    (hf : LineToneFits s n) :
    (Quiet n s (s.itemClose n finished) ∧ LineToneFits (s.itemClose n finished) n) ∨
      (((s.itemClose n finished).line n).sup.deadline = none ∧
        ((s.itemClose n finished).stateOf n = .dialing ∨
          (s.itemClose n finished).stateOf n = .idle)) := by
  unfold State.itemClose
  split
  · next hs =>
    refine .inl ⟨quiet_startSeizing hf hs, ?_⟩
    simp [LineToneFits, State.stateOf, State.startSeizing, toneFits]
  · exact .inr (by simp [State.firstPulse, State.stateOf])
  · exact .inl (quiet_pulseDialing hf)
  · exact .inl (quiet_gapDialing hf)
  · exact .inl (quiet_then_report _ (quiet_digits hf rfl rfl))
  · exact .inl (quiet_then_report _ ⟨rfl, hf⟩)
  · rcases itemClear_cases s n with h | ⟨hst, hd⟩
    · rw [h]
      exact .inl ⟨rfl, hf⟩
    · exact .inr ⟨hd, .inr hst⟩
  · exact .inl ⟨rfl, hf⟩

theorem itemClose_profile (s : State) (n : LineNo) (finished : Option (BreakClass × Nat)) :
    (s.itemClose n finished).profileOf n = s.profileOf n := by
  have hsup : ((s.itemClose n finished).line n).sup.profile = (s.line n).sup.profile := by
    unfold State.itemClose
    split
    · simp [State.startSeizing]
    · simp [State.firstPulse]
    · unfold State.pulseDialing
      dsimp only
      split
      · rfl
      · split <;> simp
    · unfold State.gapDialing
      split <;> simp
    · simp [State.flashDialing]
    · simp
    · unfold State.itemClear
      split <;> simp [State.clearLine, State.clearDialing]
    · rfl
  simp only [State.profileOf, (works_itemClose s n finished).touches.shelf.control, hsup]

/-! ### The elapsed time (R73, R77, R115, R117) -/

/-- R77: the end of a digit leaves the setting, and a deadline that is not due. -/
theorem quiet_endDigit (s : State) (n : LineNo) : Quiet n s (s.endDigit n) := by
  unfold State.endDigit
  dsimp only
  split
  · exact quiet_updLine rfl
  · split
    · exact .refl n s
    · exact (quiet_updLine rfl).report _

theorem endDigit_due {s : State} {n : LineNo} (hp : Installed (s.profileOf n))
    (hd : (s.line n).sup.deadline = none) : (s.endDigit n).deadlineDue n = none := by
  obtain ⟨-, -, -, -, -, -, -, ⟨hlow, hhigh⟩, -⟩ := hp
  unfold State.endDigit
  dsimp only
  split
  · exact deadlineDue_of_future (kind := .pdt) (seconds := (s.profileOf n).pdt) (by simp) (by omega)
      (by omega)
  · split
    · exact deadlineDue_of_none hd
    · exact deadlineDue_of_future (kind := .pdt) (seconds := (s.profileOf n).pdt) (by simp) (by omega)
        (by omega)

/-- R79: an answer in a state with no tone leaves the setting. -/
theorem quiet_answerNow {s : State} {n : LineNo} (how : AnswerKind) (frames : Nat)
    (h : (s.line n).rel.tone = .none) : Quiet n s (s.answerNow n how frames) :=
  Quiet.report (quiet_updLine (by simp [Line.setting, h])) _

theorem once_qualifySeizure {s : State} {n : LineNo} (hp : Installed (s.profileOf n)) :
    Once n s (s.qualifySeizure n) := by
  obtain ⟨-, -, -, -, -, -, ⟨hlow, hhigh⟩, -⟩ := hp
  exact (works_qualifySeizure s n).once (.inr (deadlineDue_of_future (kind := .fdt)
    (seconds := (s.profileOf n).fdt) (by simp [State.qualifySeizure]) (by omega) (by omega)))

theorem quiet_makeRinging {s : State} {n : LineNo} (ms : Nat) (h : (s.line n).rel.tone = .none) :
    Quiet n s (s.makeRinging n ms) := by
  have hanswer (how frames) : Quiet n s ((s.dropBookings (· = n)).answerNow n how frames) :=
    quiet_answerNow (s := s.dropBookings (· = n)) how frames h
  unfold State.makeRinging
  split
  · exact .refl n s
  · split
    · exact hanswer _ _
    · split
      · exact hanswer _ _
      · exact .refl n s

theorem quiet_makeWaiting {s : State} {n : LineNo} (ms : Nat) (h : (s.line n).rel.tone = .none) :
    Quiet n s (s.makeWaiting n ms) := by
  unfold State.makeWaiting
  split
  · exact quiet_answerNow (s := s.dropWaits (· = n)) _ _ h
  · exact .refl n s

theorem once_itemMake {s : State} {n : LineNo} (ms : Nat) (fresh : Bool) (hf : LineToneFits s n)
    (hp : Installed (s.profileOf n)) : Once n s (s.itemMake n ms fresh) := by
  unfold State.itemMake
  split
  case h_1 hs =>
    split
    · exact .refl n s
    · exact (works_startSeizing s n).once_quiet (quiet_startSeizing hf hs)
  case h_2 =>
    split
    · exact once_qualifySeizure hp
    · exact .refl n s
  case h_3 =>
    split
    · exact (works_endDigit s n).once_quiet (quiet_endDigit s n)
    · exact .refl n s
  case h_4 hs =>
    exact (works_makeRinging s n ms).once_quiet (quiet_makeRinging ms (hf.tone_none hs fun _ => rfl))
  case h_5 hs =>
    exact (works_makeWaiting s n ms).once_quiet (quiet_makeWaiting ms (hf.tone_none hs fun _ => rfl))
  all_goals exact .refl n s

theorem once_takeElapsed {s : State} {n : LineNo} (fresh : Bool) (e : Option Elapsed)
    (hf : LineToneFits s n) (hp : Installed (s.profileOf n)) : Once n s (s.takeElapsed n fresh e) := by
  match e with
  | none => exact .refl n s
  | some (.breakFor _) => exact .refl n s
  | some (.makeFor ms) => exact once_itemMake ms fresh hf hp

/-- R72, R77: at the sample of a close that has changed the setting, the make changes it no more and leaves no
due deadline. -/
theorem takeElapsed_after_change {s : State} {n : LineNo} (e : Option Elapsed)
    (hp : Installed (s.profileOf n)) (hd : (s.line n).sup.deadline = none)
    (hs : s.stateOf n = .dialing ∨ s.stateOf n = .idle) :
    Quiet n s (s.takeElapsed n true e) ∧ (s.takeElapsed n true e).deadlineDue n = none := by
  have hstay : Quiet n s s ∧ s.deadlineDue n = none := ⟨.refl n s, deadlineDue_of_none hd⟩
  match e with
  | none => exact hstay
  | some (.breakFor _) => exact hstay
  | some (.makeFor ms) =>
    rcases hs with hs | hs
    · simp only [State.takeElapsed, State.itemMake, hs]
      split
      · exact ⟨quiet_endDigit s n, endDigit_due hp hd⟩
      · exact hstay
    · simpa only [State.takeElapsed, State.itemMake, hs, if_true] using hstay

/-! ### What a sample hands on together (R45, R54, R59) -/

/-- A clear goes with an elapsed break. -/
theorem clearDeclared_some {p : Profile} {e : Option Elapsed} {ms : Nat}
    (h : clearDeclared p e = some ms) : ∃ b, e = some (.breakFor b) := by
  unfold clearDeclared at h
  split at h
  · exact ⟨_, rfl⟩
  · cases h

/-- R56: a confirmed close leaves the line confirmed closed. -/
theorem Classifier.confirmClose_confirmed (c : Classifier) (p : Profile) :
    (c.confirmClose p).confirmed = .closed := by
  unfold Classifier.confirmClose
  dsimp only
  split <;> rfl

/-- R45: a hook decision produces no trip and no end of learning, and a close leaves the line confirmed
closed. -/
theorem Classifier.hookDecision_event (c : Classifier) (p : Profile) (sample : Nat) (k : BitVec 32) :
    (c.hookDecision p sample k).2 = none ∨ (c.hookDecision p sample k).2 = some .opened ∨
      ∃ f, (c.hookDecision p sample k).2 = some (.closed f) ∧
        (c.hookDecision p sample k).1.confirmed = .closed := by
  unfold Classifier.hookDecision
  dsimp only
  split
  · split
    · exact .inr (.inl rfl)
    · exact .inr (.inr ⟨_, rfl, Classifier.confirmClose_confirmed _ p⟩)
  · exact .inl rfl

/-- R54: there is no break elapsed with the line confirmed closed. -/
theorem Classifier.elapsed_of_closed {c : Classifier} (h : c.confirmed = .closed) (k : BitVec 32) (b : Nat) :
    c.elapsed k ≠ some (.breakFor b) := by
  unfold Classifier.elapsed
  rw [h]
  cases c.raw <;> cases c.makeStart <;> simp

/-- What one sample hands on together: an event that ends the judgement alone (a trip or the end of learning),
a close with no clear, or else no event or an open, in which case a clear goes with an elapsed break. -/
theorem Classifier.stage2_handOn (c : Classifier) (m : Mode) (p : Profile) (sample : Nat)
    (k : BitVec 32) : let h := (c.stage2 m p sample k).2
    ((h.event = some .trip ∨ h.event = some .learned) ∧ h.clear = none ∧ h.elapsed = none) ∨
      ((∃ f, h.event = some (.closed f)) ∧ h.clear = none) ∨
      ((h.event = none ∨ h.event = some .opened) ∧
        (h.clear = none ∨ ∃ b, h.elapsed = some (.breakFor b))) := by
  have hwatch : let h := (c.watch p sample k).2
      ((∃ f, h.event = some (.closed f)) ∧ h.clear = none) ∨
      ((h.event = none ∨ h.event = some .opened) ∧
        (h.clear = none ∨ ∃ b, h.elapsed = some (.breakFor b))) := by
    have hclear : ∀ e : Option Elapsed, clearDeclared p e = none ∨ ∃ b, e = some (.breakFor b) := by
      intro e
      cases he : clearDeclared p e with
      | none => exact .inl rfl
      | some ms => exact .inr (clearDeclared_some he)
    unfold Classifier.watch
    dsimp only
    rcases c.hookDecision_event p sample k with he | he | ⟨f, he, hc⟩
    · exact .inr ⟨.inl he, hclear _⟩
    · exact .inr ⟨.inr he, hclear _⟩
    · refine .inl ⟨⟨f, he⟩, (hclear _).resolve_right ?_⟩
      rintro ⟨b, hb⟩
      exact Classifier.elapsed_of_closed hc k b hb
  cases m with
  | watchUpdate | watch => exact .inr hwatch
  | burst =>
    simp only [Classifier.stage2, Classifier.tripWatch]
    split
    · split
      · exact .inl ⟨.inl rfl, rfl, rfl⟩
      · exact .inr (.inr ⟨.inl rfl, .inl rfl⟩)
    · exact .inr (.inr ⟨.inl rfl, .inl rfl⟩)
  | learn =>
    simp only [Classifier.stage2, Classifier.learnSample]
    split
    · exact .inl ⟨.inr rfl, rfl, rfl⟩
    · exact .inr (.inr ⟨.inl rfl, .inl rfl⟩)
  | transient | off | ignore => exact .inr (.inr ⟨.inl rfl, .inl rfl⟩)

/-! ### Trips, the end of learning, and the ignore mode -/

theorem once_itemTrip (s : State) (n : LineNo) (now : Instant) : Once n s (s.itemTrip n now) := by
  refine (works_itemTrip s n now).once ?_
  unfold State.itemTrip
  split
  · refine .inr (deadlineDue_of_none ?_)
    rw [report_line_sup, State.updLine_line_same]
    dsimp only
    split
    · rw [Line.noticeReleased_deadline]
      rfl
    · rfl
  · exact .inl (.refl n s)

theorem once_itemLearned (s : State) (n : LineNo) : Once n s (s.itemLearned n) :=
  (works_itemLearned s n).once (.inr (deadlineDue_of_none (by simp [State.itemLearned])))

theorem Line.guardOver_state {l : Line} {now : Instant} {target : ExitTarget}
    (h : l.guardOver now = some target) : l.sup.state = .ringGuard := by
  unfold Line.guardOver at h
  split at h
  · assumption
  · cases h

theorem Line.guardTo_setting {l : Line} (st : LineState) (h : l.rel.tone = .none) :
    (l.guardTo st).setting = l.setting := by
  simp [Line.guardTo, Line.setting, h]

theorem Line.guardToCall_setting {l : Line} (h : l.rel.tone = .none) :
    l.guardToCall.setting = l.setting := by
  simp [Line.guardToCall, Line.setting, h]

theorem quiet_endGuard {s : State} {n : LineNo} (target : ExitTarget)
    (h : (s.line n).rel.tone = .none) : Quiet n s (s.endGuard n target) := by
  have hto (st : LineState) : Quiet n s (s.updLine n fun l => l.guardTo st) :=
    quiet_updLine (Line.guardTo_setting st h)
  unfold State.endGuard
  split
  · exact quiet_updLine (Line.guardToCall_setting h)
  · exact hto .idle
  · refine Quiet.report ?_ _
    exact hto .ringWait
  · refine Quiet.report ?_ _
    exact hto .ringWait

theorem once_ignoredSample {s : State} {n : LineNo} (now : Instant) (sample : Nat)
    (hf : LineToneFits s n) : Once n s (s.ignoredSample n now sample) := by
  unfold State.ignoredSample
  split
  · next target hg =>
    exact (works_endGuard s n target).once_quiet
      (quiet_endGuard target (hf.tone_none (Line.guardOver_state hg) fun _ => rfl))
  · split
    · split
      · exact (works_finishTest s n _).once
          (.inr (deadlineDue_of_none (by simp [State.finishTest, Line.endTest])))
      · exact (Works.updLine (.of_cls_eq rfl rfl id)).once_quiet (quiet_updLine rfl)
    · exact .refl n s

/-! ### The stages of a sample -/

theorem quiet_afterStage2 (s : State) (n : LineNo) (sample : Nat) : Quiet n s (s.afterStage2 n sample) :=
  quiet_updLine rfl

theorem sends_afterStage2 (s : State) (n : LineNo) (sample : Nat) : Sends n s (s.afterStage2 n sample) := by
  simp [Sends, State.afterStage2, State.updLine_sent]

theorem fits_afterStage2 {s : State} {n : LineNo} (sample : Nat) (h : LineToneFits s n) :
    LineToneFits (s.afterStage2 n sample) n := by
  simpa [LineToneFits, State.stateOf, State.afterStage2] using h

/-- R68: the event, the clear and the elapsed time of a sample change the setting once at most. -/
theorem once_items {s : State} {n : LineNo} (now : Instant) (h : HandOn)
    (hh : ((h.event = some .trip ∨ h.event = some .learned) ∧ h.clear = none ∧ h.elapsed = none) ∨
      ((∃ f, h.event = some (.closed f)) ∧ h.clear = none) ∨
      ((h.event = none ∨ h.event = some .opened) ∧
        (h.clear = none ∨ ∃ b, h.elapsed = some (.breakFor b))))
    (hf : LineToneFits s n) (hp : Installed (s.profileOf n)) :
    Once n s (((s.takeEvent n now h.event).takeClear n h.clear).takeElapsed n
      (LineEvent.isClose h.event) h.elapsed) := by
  rcases hh with ⟨he, hc, hel⟩ | ⟨⟨f, he⟩, hc⟩ | ⟨he, hc⟩
  · rw [hc, hel]
    rcases he with he | he <;> rw [he]
    · exact once_itemTrip s n now
    · exact once_itemLearned s n
  · rw [he, hc]
    have hw := works_itemClose s n f
    have hprof := itemClose_profile s n f
    rcases itemClose_cases f hf with ⟨hq, hfit⟩ | ⟨hd, hst⟩
    · exact .after_quiet hw.touches hw.sends hq (once_takeElapsed _ _ hfit (hprof ▸ hp))
    · obtain ⟨hq, hdue⟩ := takeElapsed_after_change h.elapsed (hprof ▸ hp) hd hst
      exact ⟨hw.sends.then_quiet (works_takeElapsed _ n _ _).sends hq, .inr hdue⟩
  · have hw := works_takeEvent s n now h.event
    have hevent : Quiet n s (s.takeEvent n now h.event) ∧ LineToneFits (s.takeEvent n now h.event) n ∧
        (s.takeEvent n now h.event).profileOf n = s.profileOf n := by
      rcases he with he | he <;> rw [he]
      · exact ⟨rfl, hf, rfl⟩
      · refine ⟨(quiet_itemOpen hf).1, (quiet_itemOpen hf).2, ?_⟩
        simp only [State.takeEvent, State.itemOpen]
        split
        · simp [State.profileOf]
        · rfl
    obtain ⟨hq, hfit, hprof⟩ := hevent
    refine .after_quiet hw.touches hw.sends hq ?_
    rcases hc with hc | ⟨b, hb⟩
    · rw [hc]
      exact once_takeElapsed _ _ hfit (hprof ▸ hp)
    · rw [hb]
      cases h.clear with
      | none => exact .refl n _
      | some ms => exact once_itemClear _ n

theorem once_afterElapsed {s : State} {n : LineNo} (sample : Nat) (hf : LineToneFits s n)
    (hp : Installed (s.profileOf n)) : Once n s (s.afterElapsed n sample) := by
  have hprof : (s.afterStage2 n sample).profileOf n = s.profileOf n := by
    simp [State.profileOf, State.afterStage2]
  exact .after_quiet (touches_afterStage2 s n sample) (sends_afterStage2 s n sample)
    (quiet_afterStage2 s n sample) (once_items _ _ (Classifier.stage2_handOn _ _ _ _ _)
      (fits_afterStage2 sample hf) (hprof ▸ hp))

theorem once_afterItems {s : State} {n : LineNo} (sample : Nat) (hf : LineToneFits s n)
    (hp : Installed (s.profileOf n)) : Once n s (s.afterItems n sample) := by
  unfold State.afterItems
  split
  · exact once_ignoredSample _ sample hf
  · exact .refl n s
  all_goals exact once_afterElapsed sample hf hp

/-- R67, R68: the deadline is judged last, and expires only where the items left the setting. -/
theorem sends_afterStage3 {s : State} {n : LineNo} (sample : Nat) (hf : LineToneFits s n)
    (hp : Installed (s.profileOf n)) : Sends n s (s.afterStage3 n sample) := by
  have h := once_afterItems sample hf hp
  rcases h.due with hq | hd
  · exact h.sends.quiet_then ((touches_afterItems s n sample).shelf.cardPresent n) hq
      (works_judgeDeadline _ n).sends
  · have hjudge : s.afterStage3 n sample = s.afterItems n sample := by
      simp only [State.afterStage3, State.judgeDeadline, hd]
    rw [hjudge]
    exact h.sends

theorem quiet_updateBaseline (s : State) (n : LineNo) (sample tc : Nat) :
    Quiet n s (s.updateBaseline n sample tc) := by
  unfold State.updateBaseline
  split
  · exact quiet_updLine rfl
  · exact .refl n s

theorem quiet_checkLeakage (s : State) (n : LineNo) : Quiet n s (s.checkLeakage n) := by
  unfold State.checkLeakage
  dsimp only
  split
  · split
    · exact (quiet_updLine rfl).report _
    · exact .refl n s
  · split
    · exact (quiet_updLine rfl).report _
    · exact .refl n s

theorem sends_arrival {s : State} {n : LineNo} (a : Option Byte) (hf : LineToneFits s n)
    (hp : Installed (s.profileOf n)) : Sends n s (s.arrival n a) := by
  have hdel := works_delivered s n
  have hfit : LineToneFits (s.delivered n) n := by
    simpa [LineToneFits, State.stateOf, State.delivered] using hf
  have hprof : (s.delivered n).profileOf n = s.profileOf n := by
    simp [State.profileOf, State.delivered]
  have h3 : Sends n s ((s.delivered n).afterStage3 n (sampleOf a)) :=
    hdel.sends.quiet_then (hdel.touches.shelf.cardPresent n) (quiet_updLine rfl)
      (sends_afterStage3 _ hfit (hprof ▸ hp))
  have h4 : Sends n s ((s.delivered n).afterStage4 n (sampleOf a)) := by
    unfold State.afterStage4
    split
    · exact h3.then_quiet (works_updateBaseline _ n _ _).sends (quiet_updateBaseline _ n _ _)
    · exact h3
  unfold State.arrival State.stages
  split
  · split
    · exact h4.then_quiet (works_checkLeakage _ n).sends (quiet_checkLeakage _ n)
    · exact h4
  · exact (Works.refl n s).sends

/-- Settles O28: an order is one operation of its line, and a sample a chain of operations of its line of which
one at most changes the setting. -/
theorem lineCommandsTouchOnlyTheirLine : Obligations.LineCommandsTouchOnlyTheirLine := by
  intro i n s hi
  rcases exec_line_cases hi s with h | ⟨o, now, kind, seq, h⟩ | ⟨a, -, h⟩
  · have hw := Works.refl n s
    exact ⟨s, h, hw.touches.onlyLine, fun _ _ => hw.touches.settingsSent hw.sends⟩
  · have hw := (works_answer s n o now).taken kind seq
    exact ⟨_, h, hw.touches.onlyLine, fun _ _ => hw.touches.settingsSent hw.sends⟩
  · have ht := touches_arrival s n a
    exact ⟨_, h, ht.onlyLine, fun hf hp => ht.settingsSent (sends_arrival a (hf n) hp)⟩

end Sys2Proof.Machine
end

section
/-! PROOFS. The bus, the mailbox and the commands that find nothing: O4, O5, O6, O18, O19. -/

namespace Sys2Proof.Machine

open Sys2Proof.Safety

/-! ### Words and bytes -/

theorem joinBytes_bytes (w : Word) : joinBytes (highByte w) (lowByte w) = w := by
  apply BitVec.eq_of_getLsbD_eq
  intro i hi
  unfold joinBytes highByte lowByte
  rw [BitVec.getLsbD_append]
  split
  · next h => simp [h]
  · next h =>
    have h8 : 8 + (i - 8) = i := by omega
    have hlt : i - 8 < 8 := by omega
    simp [h8, hlt]

/-- The status word is below 64 (R8). -/
theorem State.statusWord_toNat (s : State) : s.statusWord.toNat =
    s.control.shelf.code + 4 * s.source.state.code
      + (if s.port.writeDiscarded then 16 else 0) + (if s.port.parametersAdjusted then 32 else 0) := by
  have hshelf : s.control.shelf.code ≤ 2 := by cases s.control.shelf <;> decide
  have hsource : s.source.state.code ≤ 3 := by cases s.source.state <;> decide
  unfold State.statusWord
  rw [BitVec.toNat_ofNat]
  cases s.port.writeDiscarded <;> cases s.port.parametersAdjusted <;>
    simp only [Bool.toNat_true, Bool.toNat_false, if_true, if_false, Bool.false_eq_true] <;> omega

/-- R8: the high byte of the status register reads 0. -/
theorem State.highByte_statusWord (s : State) : highByte s.statusWord = 0 := by
  have hshelf : s.control.shelf.code ≤ 2 := by cases s.control.shelf <;> decide
  have hsource : s.source.state.code ≤ 3 := by cases s.source.state <;> decide
  have h := s.statusWord_toNat
  have hlt : s.statusWord.toNat < 256 := by
    rw [h]
    split <;> split <;> omega
  apply BitVec.eq_of_toNat_eq
  simp [highByte, Nat.shiftRight_eq_div_pow]
  omega

/-- Settles O6: the two bytes of the status register join to the status word. -/
theorem statusReadReturnsAndClearsFlags : Obligations.StatusReadReturnsAndClearsFlags := by
  intro s
  have hread : s.readWord 0x3FFD = s.statusWord := (joinBytes_bytes s.statusWord)
  exact ⟨_, rfl, hread.symm, s.statusWord_toNat, rfl⟩

/-! ### Writes in the work memory (R1, R2) -/

/-- R2: the host-owned areas of the work memory map. -/
theorem hostOwned_iff {off : Nat} : hostOwned off = true ↔
    (0x100 ≤ off ∧ off < 0x800) ∨ (0x800 ≤ off ∧ off < 0x2800 ∧ (off - 0x800) % 128 < 0x20) := by
  unfold hostOwned
  split
  · simp
    omega
  · split
    · simp
      omega
    · simp only [Bool.and_eq_true, decide_eq_true_eq]
      omega

/-- A host-owned word has both its bytes host-owned: the areas begin and end at even offsets (R2). -/
theorem hostOwned_odd (w : BusWrite) : hostOwned (w.offset + 1) = hostOwned w.offset := by
  rw [Bool.eq_iff_iff, hostOwned_iff, hostOwned_iff, BusWrite.offset]
  omega

/-- A byte of the four registers, and 0 in the empty region (Registers). -/
def State.registerByte (s : State) (off : Nat) : Byte :=
  if off = 0x7FF8 then lowByte s.controlWord
  else if off = 0x7FF9 then highByte s.controlWord
  else if off = 0x7FFA then lowByte s.statusWord
  else if off = 0x7FFB then highByte s.statusWord
  else if off = 0x7FFC then lowByte s.attentionWord
  else if off = 0x7FFD then highByte s.attentionWord
  else if off = 0x7FFE then lowByte s.time16
  else if off = 0x7FFF then highByte s.time16
  else 0

/-- The registers show the four words, of which the low byte of the status word stands at 0x7FFA alone. -/
theorem registerByte_congr {s t : State} {off : Nat} (hc : t.controlWord = s.controlWord)
    (hlow : off = 0x7FFA → lowByte t.statusWord = lowByte s.statusWord)
    (hhigh : highByte t.statusWord = highByte s.statusWord)
    (ha : t.attentionWord = s.attentionWord) (ht : t.time16 = s.time16) :
    t.registerByte off = s.registerByte off := by
  unfold State.registerByte
  rw [hc, hhigh, ha, ht]
  by_cases h : off = 0x7FFA
  · rw [hlow h]
  · rw [if_neg h, if_neg h]

theorem State.readByte_header (s : State) {off : Nat} (h : off < 0x100) :
    s.readByte off = s.headerByte off := if_pos h

/-- A line record shows the lines, the ring lists and the cards (R6). -/
theorem recordByte_congr {s t : State} (hl : t.lines = s.lines) (hk : t.sched = s.sched)
    (hc : t.slots = s.slots) (n : LineNo) (r : Nat) : t.recordByte n r = s.recordByte n r := by
  unfold State.recordByte State.lineFlags State.shownParty State.bookingOf State.waitOf
  rw [hk, State.line_congr hl, State.cardPresent_congr hc]

theorem State.readByte_record (s : State) {off : Nat} (h : 0x800 ≤ off ∧ off < 0x2800)
    (ho : hostOwned off = false) :
    s.readByte off = s.recordByte ⟨(off - 0x800) / 128, by omega⟩ ((off - 0x800) % 128) := by
  unfold State.readByte
  rw [if_neg (show ¬ off < 0x100 by omega), dif_pos h, ho, if_neg Bool.false_ne_true]

theorem State.readByte_register (s : State) {off : Nat} (h : 0x2800 ≤ off) :
    s.readByte off = s.registerByte off := by
  unfold State.readByte
  rw [if_neg (show ¬ off < 0x100 by omega), dif_neg (show ¬ (0x800 ≤ off ∧ off < 0x2800) by omega),
    if_neg (show ¬ off < 0x800 by omega), State.registerByte]

/-- The four regions of the window: the header, the host-owned bytes, the status and list bytes of the line
records, and what lies behind the work memory (section 1.1). -/
theorem window_cases (off : Nat) : off < 0x100 ∨ hostOwned off = true ∨
    ((0x800 ≤ off ∧ off < 0x2800) ∧ hostOwned off = false) ∨ 0x2800 ≤ off := by
  cases h : hostOwned off with
  | true => exact .inr (.inl rfl)
  | false =>
    have hn := mt (hostOwned_iff (off := off)).2 (by simp [h])
    by_cases h1 : off < 0x100
    · exact .inl h1
    · by_cases h2 : 0x2800 ≤ off
      · exact .inr (.inr (.inr h2))
      · exact .inr (.inr (.inl ⟨by omega, rfl⟩))

/-- The host-owned bytes decide what host-owned offsets read, and nothing else. -/
theorem readByte_of_mem (s : State) (m : Memory) (off : Nat) :
    State.readByte { s with port.mem := m } off =
      if hostOwned off then Memory.read m off else s.readByte off := by
  have hheader (h : off < 0x100) : hostOwned off ≠ true := fun ho => by
    have := hostOwned_iff.1 ho
    omega
  have hbeyond (h : 0x2800 ≤ off) : hostOwned off ≠ true := fun ho => by
    have := hostOwned_iff.1 ho
    omega
  rcases window_cases off with h | h | ⟨h, ho⟩ | h
  · rw [if_neg (hheader h), State.readByte_header _ h, State.readByte_header _ h]
    rfl
  · rw [if_pos h, State.readByte_hostOwned _ h]
    rfl
  · rw [ho, if_neg Bool.false_ne_true, State.readByte_record _ h ho, State.readByte_record _ h ho,
      recordByte_congr (s := s)] <;> rfl
  · rw [if_neg (hbeyond h), State.readByte_register _ h, State.readByte_register _ h]
    exact registerByte_congr rfl (fun _ => rfl) rfl rfl rfl

/-- The bytes that a write to a host-owned word stores (R1, R2). -/
def storedBytes (w : BusWrite) (m : Memory) : Memory :=
  let m := if w.low then Memory.write m w.offset (lowByte w.data) else m
  if w.high then Memory.write m (w.offset + 1) (highByte w.data) else m

theorem writeWorkMemory_hostOwned (s : State) {w : BusWrite} (hin : w.inWorkMemory = true)
    (hen : w.low = true ∨ w.high = true) (hown : hostOwned w.offset = true) :
    s.writeWorkMemory w = { s with port.mem := storedBytes w s.port.mem } := by
  have hgo : (!w.inWorkMemory || (!w.low && !w.high)) = false := by
    rcases hen with h | h <;> simp [hin, h]
  unfold State.writeWorkMemory
  rw [hgo, if_neg Bool.false_ne_true, if_pos hown]
  rfl

theorem writeWorkMemory_partOwned (s : State) {w : BusWrite} (hin : w.inWorkMemory = true)
    (hen : w.low = true ∨ w.high = true) (hown : hostOwned w.offset = false) :
    s.writeWorkMemory w = { s with port.writeDiscarded := true } := by
  have hgo : (!w.inWorkMemory || (!w.low && !w.high)) = false := by
    rcases hen with h | h <;> simp [hin, h]
  unfold State.writeWorkMemory
  rw [hgo, if_neg Bool.false_ne_true, hown, if_neg Bool.false_ne_true]

theorem read_storedBytes {m : Memory} (w : BusWrite) (hm : Memory.wf m = true) (off : Nat) :
    Memory.read (storedBytes w m) off =
      if off = w.offset ∧ w.low = true then lowByte w.data
      else if off = w.offset + 1 ∧ w.high = true then highByte w.data
      else Memory.read m off := by
  have hlow : Memory.wf (if w.low then Memory.write m w.offset (lowByte w.data) else m) = true := by
    split
    · exact Memory.write_wf _ _ hm
    · exact hm
  have hread : Memory.read (if w.low then Memory.write m w.offset (lowByte w.data) else m) off =
      if off = w.offset ∧ w.low = true then lowByte w.data else Memory.read m off := by
    by_cases hl : w.low = true
    · by_cases ho : off = w.offset
      · subst ho
        simp [hl, Memory.read_write_same _ _ _ hm]
      · simp [hl, ho, Memory.read_write_other _ _ _ _ ho]
    · simp [hl]
  unfold storedBytes
  dsimp only
  by_cases hh : w.high = true
  · by_cases ho : off = w.offset + 1
    · subst ho
      simp [hh, Memory.read_write_same _ _ _ hlow]
    · simp only [hh, ho, if_true, Memory.read_write_other _ _ _ _ ho, hread, false_and, if_false]
  · simp [hh, hread]

/-- R8: *write discarded* shows in the low byte of the status register alone. -/
theorem readByte_writeDiscarded (s : State) (d : Bool) {off : Nat} (h : off ≠ 0x7FFA) :
    State.readByte { s with port.writeDiscarded := d } off = s.readByte off := by
  rcases window_cases off with hoff | hoff | ⟨hoff, ho⟩ | hoff
  · rw [State.readByte_header _ hoff, State.readByte_header _ hoff]
    rfl
  · rw [State.readByte_hostOwned _ hoff, State.readByte_hostOwned _ hoff]
    rfl
  · rw [State.readByte_record _ hoff ho, State.readByte_record _ hoff ho,
      recordByte_congr (s := s)] <;> rfl
  · rw [State.readByte_register _ hoff, State.readByte_register _ hoff]
    exact registerByte_congr rfl (fun h' => absurd h' h)
      ((State.highByte_statusWord _).trans s.highByte_statusWord.symm) rfl rfl

/-- Settles O4: a host-owned byte reads as stored, and stored bytes read after a write as enabled; a part-owned
byte reads no flag but the status register's low byte. -/
theorem workMemoryWriteStoresOrDiscards : Obligations.WorkMemoryWriteStoresOrDiscards := by
  intro w s hin hen
  refine ⟨s.writeWorkMemory w, rfl, fun hown => ?_, fun hown => ?_⟩
  · rw [writeWorkMemory_hostOwned s hin hen hown]
    refine ⟨fun hm off => ?_, rfl⟩
    rw [readByte_of_mem, read_storedBytes w hm]
    by_cases h0 : off = w.offset
    · subst h0
      rw [if_pos hown, State.readByte_hostOwned s hown]
      rfl
    · by_cases h1 : off = w.offset + 1
      · subst h1
        have hodd := (hostOwned_odd w).trans hown
        rw [if_pos hodd, State.readByte_hostOwned s hodd]
        rfl
      · simp only [h0, h1, false_and, if_false]
        split
        · next ho => exact (State.readByte_hostOwned s ho).symm
        · rfl
  · rw [writeWorkMemory_partOwned s hin hen hown]
    exact ⟨rfl, fun off hoff => readByte_writeDiscarded s true hoff, rfl⟩

/-! ### Rows that find nothing (logs 6, 7, 8, 28) -/

theorem takesOrder_iff {s : State} {n : LineNo} {seq : Byte} :
    s.takesOrder n seq = true ↔ Takes s n seq := by
  simp [State.takesOrder, Takes]

theorem delivers_iff {s : State} {n : LineNo} : s.delivers n = true ↔ Sampled s n := by
  simp [State.delivers, Sampled]

theorem arrivalIf_of_not_sampled {s : State} {n : LineNo} (h : ¬Sampled s n) (due : Bool)
    (a : Option Byte) : s.arrivalIf due n a = s := by
  have harrival : s.arrival n a = s := if_neg fun hd => h (delivers_iff.1 hd)
  exact (s.arrivalIf_cases due n a).elim id fun h => h.trans harrival

/-- R91: no boundary is due unless the shelf is RUNNING and shelf time has reached it. -/
theorem boundaryDue_eq_none {s : State} (h : s.control.shelf ≠ .running ∨ s.sched.nextBoundary = none ∨
    (∀ e, s.sched.nextBoundary = some e → s.shelfTime < e)) : s.boundaryDue = none := by
  unfold State.boundaryDue
  rcases h with h | h | h
  · rw [if_neg h]
  · rw [h]
    split <;> rfl
  · split
    · rw [Option.filter_eq_none_iff]
      intro e he
      simpa using h e he
    · rfl

/-- Settles O5: each row is guarded by the test (order taken, line read, boundary due) that fails here. -/
theorem commandsThatFindNothing : Obligations.CommandsThatFindNothing := by
  refine ⟨fun w s => ⟨rfl, fun hl hh => ?_⟩, fun i n kind seq s hi hnot => ?_,
    fun i n s hi ho hnot hbad => ?_, fun n early late s hdue => ?_⟩
  · simp [exec, execWorkMemoryWrite, State.writeWorkMemory, hl, hh]
  · obtain ⟨o, now, h⟩ := exec_orderRow hi s
    rw [h, State.order, if_neg fun ht => hnot (takesOrder_iff.1 ht)]
  · rcases exec_sampleRow hi ho s with ⟨seq, kind, rfl, -⟩ | ⟨due, a, h⟩
    · exact absurd rfl (hbad seq kind)
    · rw [h, arrivalIf_of_not_sampled hnot]
  · have hnone := boundaryDue_eq_none hdue
    have htake : s.takeBoundary early late = s.landed early late := by
      simp only [State.takeBoundary, hnone]
    refine ⟨congrArg _ htake, ?_, ?_⟩
    · simp [exec, execRingEndNoAnswer, State.bringsRingEnd, hnone]
    · simp [exec, execRingEndWaitLimit, State.bringsWaitLimit, hnone]

/-! ### Orders that change nothing but what R13 records -/

/-- R13: an answer that leaves the state and causes no report records the outcome and appends the ORDER
report. -/
theorem taken_of_unchanged {s : State} {a : Answer} (n : LineNo) (kind seq : Byte) (hs : a.state = s)
    (hf : a.follow = []) :
    (a.taken n kind seq).line n = answered s (s.line n) a.outcome kind seq ∧
      (a.taken n kind seq).sched = s.sched ∧ (a.taken n kind seq).sent = s.sent := by
  subst hs
  rw [Answer.taken, hf]
  refine ⟨?_, rfl, ?_⟩
  · simp [answered, Line.append]
  · rw [List.foldl_nil, State.report_sent, State.updLine_sent, relayWords_of_setting_eq _ n]
    · rfl
    · rfl

/-- Settles O19: both answers leave the state and cause no report, so R13's record is all that changes. -/
theorem noteAcceptedBadKindRefused : Obligations.NoteAcceptedBadKindRefused := by
  refine ⟨fun n seq s ht => ⟨(s.orderNote n).taken n 0 seq, ?_, taken_of_unchanged n 0 seq rfl rfl⟩,
    fun n seq kind s hk ht => ⟨(s.orderBadKind n).taken n kind seq, ?_,
      taken_of_unchanged n kind seq rfl rfl⟩⟩
  · simp [exec, execNote, State.order, takesOrder_iff.2 ht]
  · simp [exec, execBadKind, hk, State.order, takesOrder_iff.2 ht]

/-! ### A visit while RUNNING (R11, R12) -/

/-- R12: a kind of 8 or above is read as a refused kind. -/
theorem mailOrder_badKind {s : State} {n : LineNo} (h : 8 ≤ (s.hostByte (recordBase n + 0x11)).toNat) :
    s.mailOrder n = .badKind (s.hostByte (recordBase n + 0x11)) := by
  unfold State.mailOrder
  dsimp only
  split
  case h_9 => rfl
  all_goals omega

/-- R12: a posted row acts as the owner's answer to the order read from the mailbox. -/
theorem exec_postedRow {fields s : State} {n : LineNo} {seq : Byte} {us : Fin 1000} {i : Instr}
    (hi : postedRow fields n seq us = some i) (ht : s.takesOrder n seq = true) :
    exec i s = .next ((s.answer n (fields.mailOrder n) (s.instantAt us)).taken n
      (fields.mailOrder n).kind seq) := by
  have row {j : Instr} {o : Order} (hm : fields.mailOrder n = o)
      (he : exec j s = .next (s.order n o.kind seq (s.answer n o (s.instantAt us)))) :
      exec j s = .next ((s.answer n (fields.mailOrder n) (s.instantAt us)).taken n
        (fields.mailOrder n).kind seq) := by
    rw [hm, he, State.order, if_pos ht]
  have service {v : Byte} (hk : (fields.hostByte (recordBase n + 0x11)).toNat = 1)
      (hv : (fields.hostByte (recordBase n + 0x15)).toNat = v.toNat) :
      fields.mailOrder n = .service v := by
    simp only [State.mailOrder, hk, BitVec.eq_of_toNat_eq hv]
  unfold postedRow at hi
  split at hi <;> cases hi
  case h_1 hk => exact row (o := .note) (by simp only [State.mailOrder, hk]) rfl
  case h_2 hk hv => exact row (service (v := 0) hk hv) rfl
  case h_3 hk hv => exact row (service (v := 1) hk hv) rfl
  case h_5 hk => exact row (o := .configure _) (by simp only [State.mailOrder, hk]) rfl
  case h_6 hk => exact row (o := .ring _ _) (by simp only [State.mailOrder, hk]) rfl
  case h_7 hk => exact row (o := .stop) (by simp only [State.mailOrder, hk]) rfl
  case h_8 hk => exact row (o := .connect) (by simp only [State.mailOrder, hk]) rfl
  case h_9 hk => exact row (o := .release _) (by simp only [State.mailOrder, hk]) rfl
  case h_10 hk => exact row (o := .test) (by simp only [State.mailOrder, hk]) rfl
  case h_11 k0 k1 k2 k3 k4 k5 k6 k7 _ _ =>
    rw [imp_false] at k0 k1 k2 k3 k4 k5 k6 k7
    have h8 : 8 ≤ (fields.hostByte (recordBase n + 0x11)).toNat := by omega
    exact row (mailOrder_badKind h8) (by simp [exec, execBadKind, h8, State.answer, Order.kind])

/-- R12: a mailbox posts no row where it holds a SERVICE with a value that is no encoding, which is refused. -/
theorem answer_of_no_row {fields : State} {n : LineNo} {seq : Byte} {us : Fin 1000}
    (hi : postedRow fields n seq us = none) (s : State) (now : Instant) :
    s.answer n (fields.mailOrder n) now = s.refuse .refusedField ∧ (fields.mailOrder n).kind = 1 := by
  unfold postedRow at hi
  split at hi <;> cases hi
  next hk h0 h1 =>
  have hm : fields.mailOrder n = .service (fields.hostByte (recordBase n + 0x15)) := by
    simp only [State.mailOrder, hk]
  have hne0 : fields.hostByte (recordBase n + 0x15) ≠ 0 := fun h => h0 (by rw [h]; rfl)
  have hne1 : fields.hostByte (recordBase n + 0x15) ≠ 1 := fun h => h1 (by rw [h]; rfl)
  rw [hm]
  exact ⟨by simp only [State.answer, State.orderService, if_neg hne0, if_neg hne1], rfl⟩

/-- Settles O18: the visit's consistent read is the taking of the order that the mailbox posts. -/
theorem visitTakesPostedOrder : Obligations.VisitTakesPostedOrder := by
  intro us early late s hrunning n fields s2 seq visit
  have hseq : ((s.readTakenCount n).line n).takenSeq = (s.line n).takenSeq := by
    rw [readTakenCount_line, if_pos rfl]
  have hread : visit = .next { (s.readTakenCount n).consistentRead n (s.instantAt us) early late with
      visitPointer := n + 1 } := by
    have hrun : (s.readTakenCount s.visitPointer).control.shelf = .running := hrunning
    simp only [visit, n, exec, execOrderIntakeVisit, State.visit, hrun, if_true]
  have htime : s2.instantAt us = s.instantAt us := by
    simp [State.instantAt, s2, fields, State.readTakenCount]
  have hmail : (s.readTakenCount n).mailSequence n = seq := rfl
  refine ⟨fun hnew hagree => ?_, fun hnot => ?_⟩
  · have htaken : (s.readTakenCount n).consistentRead n (s.instantAt us) early late =
        (s2.answer n (fields.mailOrder n) (s2.instantAt us)).taken n (fields.mailOrder n).kind seq := by
      rw [htime]
      exact if_pos ⟨by rwa [hseq], hagree⟩
    have ht : s2.takesOrder n seq = true := by
      refine takesOrder_iff.2 ⟨?_, ?_⟩
      · have hcontrol : s2.control = s.control := by simp [s2, fields, State.readTakenCount]
        rwa [hcontrol]
      · have hline : s2.line n = (s.readTakenCount n).line n := by simp [s2, fields]
        rwa [hline, hseq]
    refine ⟨fun i hi => ⟨_, exec_postedRow hi ht, by rw [hread, htaken]⟩, fun hnone => ?_⟩
    obtain ⟨ha, hk⟩ := answer_of_no_row hnone s2 (s2.instantAt us)
    obtain ⟨hline, hsched, -⟩ :=
      taken_of_unchanged (a := s2.refuse .refusedField) n 1 seq rfl rfl
    rw [ha, hk] at htaken
    exact ⟨_, hread, rfl, by rw [htaken]; exact hline, by rw [htaken]; exact hsched⟩
  · have hstay : (s.readTakenCount n).consistentRead n (s.instantAt us) early late = s2 :=
      if_neg fun ⟨hne, hagree⟩ => hnot.elim (fun h => hne (by rw [hmail, h, hseq])) fun h => h hagree
    rw [hread, hstay]

end Sys2Proof.Machine
end

section
/-! PROOFS. O3: shelf time, and every part-owned byte of the shelf header and of a line record, shown as the
state is. -/

namespace Sys2Proof.Machine

open Sys2Proof.Safety

/-! ### Numbers as bytes -/

theorem append_toNat {m n : Nat} (x : BitVec m) (y : BitVec n) :
    (x ++ y).toNat = 2 ^ n * x.toNat + y.toNat := by
  rw [BitVec.toNat_append, Nat.shiftLeft_eq, Nat.mul_comm, ← Nat.two_pow_add_eq_or_of_lt y.isLt]

theorem byte_toNat {v : Nat} (h : v < 256) : (BitVec.ofNat 8 v).toNat = v := by
  rw [BitVec.toNat_ofNat]
  exact Nat.mod_eq_of_lt h

theorem byteAt_toNat (v i : Nat) : (byteAt v i).toNat = v / 256 ^ i % 256 := BitVec.toNat_ofNat _ _

/-- Two bytes show a 16-bit number whole. -/
theorem twoBytes_toNat {v : Nat} (h : v < 65536) :
    (byteAt v 0).toNat + 256 * (byteAt v 1).toNat = v := by
  rw [byteAt_toNat, byteAt_toNat]
  omega

/-- Four bytes show a 32-bit number whole. -/
theorem fourBytes (w : BitVec 32) :
    byteAt w.toNat 3 ++ byteAt w.toNat 2 ++ byteAt w.toNat 1 ++ byteAt w.toNat 0 = w := by
  have hw := w.isLt
  apply BitVec.eq_of_toNat_eq
  simp only [append_toNat, byteAt_toNat]
  omega

/-- Bit i of a number of marks is its i-th mark. -/
theorem bitsValue_testBit (l : List Bool) (i : Nat) : (bitsValue l).testBit i = l.getD i false := by
  induction l generalizing i with
  | nil => simp [bitsValue]
  | cons b l ih =>
    have hb := b.toNat_le
    have hdiv : (b.toNat + 2 * bitsValue l) / 2 = bitsValue l := by omega
    cases i with
    | zero => cases b <;> simp [bitsValue, Nat.testBit_zero]
    | succ i => rw [bitsValue, Nat.testBit_succ, hdiv, ih, List.getD_cons_succ]

theorem flagByte_bit (l : List Bool) {i : Nat} (h : i < 8) :
    (BitVec.ofNat 8 (bitsValue l)).getLsbD i = l.getD i false := by
  rw [BitVec.getLsbD_ofNat, bitsValue_testBit]
  simp [h]

/-! ### The shelf header (R4, R142) -/

/-- R4: the four bytes of shelf time. -/
theorem timeField_eq (s : State) : timeField s = BitVec.ofNat 32 s.shelfTime := by
  have hbyte (i : Nat) (hi : i < 4) : s.readByte (0x2C + i) = byteAt s.time32.toNat i := by
    rw [State.readByte_header s (by omega)]
    unfold State.headerByte
    rw [if_neg (by omega), if_neg (by omega), if_neg (by omega), if_neg (by omega), dif_neg (by omega),
      if_neg (by omega), if_neg (by omega), if_neg (by omega), dif_neg (by omega), if_neg (by omega),
      if_neg (by omega), if_neg (by omega), if_pos (by omega)]
    congr 1
    omega
  have h := fourBytes s.time32
  rw [← hbyte 0 (by decide), ← hbyte 1 (by decide), ← hbyte 2 (by decide), ← hbyte 3 (by decide)] at h
  exact h

/-- R92: the twelve slot loads, two bytes each. -/
theorem headerByte_load (s : State) (k : FrameSlot) {i : Nat} (hi : i < 2) :
    s.readByte (0x04 + 2 * k.val + i) = byteAt s.sched.loads[k] i := by
  have hk := k.isLt
  have hindex : (0x04 + 2 * k.val + i - 0x04) / 2 = k.val := by omega
  have hbyte : (0x04 + 2 * k.val + i) % 2 = i := by omega
  rw [State.readByte_header s (by omega)]
  unfold State.headerByte
  rw [if_neg (by omega), if_neg (by omega), if_neg (by omega), if_neg (by omega), dif_pos (by omega)]
  simp only [hindex, hbyte]
  rfl

/-- R139: the bit of line n in the attention map. -/
theorem attentionMap_bit (s : State) (n : LineNo) :
    (s.readByte (0x20 + n.val / 8)).getLsbD (n.val % 8) = (s.line n).rep.attention := by
  have hn := n.isLt
  have hread : s.readByte (0x20 + n.val / 8) = s.attentionByte ⟨n.val / 8, by omega⟩ := by
    rw [State.readByte_header s (by omega)]
    unfold State.headerByte
    rw [if_neg (by omega), if_neg (by omega), if_neg (by omega), if_neg (by omega), dif_neg (by omega),
      if_neg (by omega), if_neg (by omega), if_neg (by omega), dif_pos (by omega)]
    congr 2
    omega
  have hline : (⟨8 * (n.val / 8) + n.val % 8, by omega⟩ : LineNo) = n := Fin.ext (by simp; omega)
  rw [hread, State.attentionByte, flagByte_bit _ (Nat.mod_lt _ (by decide))]
  simp [List.getD_eq_getElem?_getD, Nat.mod_lt, hline, State.attentionBit]

/-- The bytes of the header that show nothing read 0, and so does the empty region. -/
theorem unused_reads_zero (s : State) {off : Nat}
    (h : off = 0x1D ∨ off = 0x2B ∨ (0x30 ≤ off ∧ off < 0x100) ∨ (0x2800 ≤ off ∧ off < 0x7FF8)) :
    s.readByte off = 0 := by
  by_cases hhead : off < 0x100
  · rw [State.readByte_header s hhead]
    unfold State.headerByte
    rw [if_neg (by omega), if_neg (by omega), if_neg (by omega), if_neg (by omega), dif_neg (by omega),
      if_neg (by omega), if_neg (by omega), if_neg (by omega), dif_neg (by omega), if_neg (by omega),
      if_neg (by omega), if_neg (by omega), if_neg (by omega)]
  · rw [State.readByte_register s (by omega)]
    unfold State.registerByte
    rw [if_neg (by omega), if_neg (by omega), if_neg (by omega), if_neg (by omega), if_neg (by omega),
      if_neg (by omega), if_neg (by omega), if_neg (by omega)]

/-- R93: a list whose entries stand for different lines has at most 64 of them. -/
theorem length_le_of_nodup_lines {α : Type} {line : α → LineNo} {as : List α}
    (h : (as.map line).Nodup) : as.length ≤ 64 := by
  simpa using h.length_le_card

theorem headerShows {s : State} (hr : RingListsConsistent s) (hv : ValuesInRange s) : HeaderShows s := by
  obtain ⟨-, hcap, ⟨-, -, hbn, hwn⟩, -⟩ := hr
  obtain ⟨-, ⟨⟨hcapacity, -⟩, -⟩, -⟩ := hv
  have hb := length_le_of_nodup_lines hbn
  have hw := length_le_of_nodup_lines hwn
  have hcount : s.attentionCount ≤ 64 := by
    simpa [State.attentionCount] using
      List.countP_le_length (p := s.attentionBit) (l := List.finRange 64)
  have head {off : Nat} (h : off < 0x100) := State.readByte_header s h
  refine ⟨?_, ?_, ?_, head (by decide), fun k => ?_, head (by decide), ?_, attentionMap_bit s, ?_, ?_, ?_,
    timeField_eq s, fun off => unused_reads_zero s, ?_⟩
  · rw [head (by decide)]
    simp only [State.headerByte, if_true]
    cases s.control.shelf <;> rfl
  · rw [head (by decide)]
    simp only [State.headerByte, Nat.one_ne_zero, if_false, if_true]
    cases s.source.state <;> rfl
  · exact (congrArg BitVec.toNat (head (by decide))).trans (byte_toNat (by omega))
  · unfold fieldAt
    rw [headerByte_load s k (i := 1) (by decide)]
    have h0 := headerByte_load s k (i := 0) (by decide)
    rw [Nat.add_zero] at h0
    rw [h0]
    exact twoBytes_toNat (lt_of_le_of_lt ((hcap k).trans hcapacity) (by decide))
  · rw [head (off := 0x1F) (by decide), head (off := 0x1E) (by decide)]
    exact joinBytes_bytes s.control.codeAdjusted
  · rw [head (by decide), ← List.countP_eq_length_filter]
    exact byte_toNat (v := s.attentionCount) (by omega)
  · exact (congrArg BitVec.toNat (head (by decide))).trans (byte_toNat (by omega))
  · exact (congrArg BitVec.toNat (head (by decide))).trans (byte_toNat (by omega))
  · have hword : s.readWord 0x3FFC = s.controlWord := joinBytes_bytes s.controlWord
    rw [hword]
    unfold State.controlWord
    cases s.port.run <;> cases s.port.interruptEnable <;> rfl

/-! ### A line record (R6) -/

/-- The status and list bytes of a line record stand at 0x20 to 0x7F of it (Line record). -/
theorem readByte_lineRecord (s : State) (n : LineNo) {i : Nat} (h : 0x20 ≤ i ∧ i < 0x80) :
    s.readByte (recordBase n + i) = s.recordByte n i := by
  have hn := n.isLt
  have hoff : recordBase n + i - 0x800 = 128 * n.val + i := by
    unfold recordBase
    omega
  have ho : hostOwned (recordBase n + i) = false := by
    rw [Bool.eq_false_iff, ne_eq, hostOwned_iff, hoff]
    unfold recordBase
    omega
  have hline : (⟨(128 * n.val + i) / 128, by omega⟩ : LineNo) = n := Fin.ext (by simp; omega)
  have hmod : (128 * n.val + i) % 128 = i := by omega
  rw [State.readByte_record s (by unfold recordBase; omega) ho]
  simp only [hoff, hline, hmod]

/-- Byte j of entry i of the report list (Report entry). -/
theorem readByte_reportEntry (s : State) (n : LineNo) (i : Fin 8) {j : Nat} (hj : j < 8) :
    s.readByte (recordBase n + 0x40 + 8 * i.val + j) = ((s.line n).rep.entries[i]).byte j := by
  have hi := i.isLt
  have hoff : recordBase n + 0x40 + 8 * i.val + j = recordBase n + (0x40 + 8 * i.val + j) := by omega
  have hindex : (0x40 + 8 * i.val + j - 0x40) / 8 = i.val := by omega
  have hbyte : (0x40 + 8 * i.val + j) % 8 = j := by omega
  rw [hoff, readByte_lineRecord s n (by omega)]
  unfold State.recordByte
  rw [dif_pos (by omega)]
  simp only [hindex, hbyte]
  rfl

/-! ### The ring entries of a line (R6, R93, R104) -/

/-- The five ring bytes of a record, as the lists give them. -/
theorem ringEntryShown (s : State) (n : LineNo) : RingEntryShown s (recordBase n + 0x29) (s.shownParty n)
    (((s.bookingOf n).map fun b => b.rotation.val).getD 0)
    (((s.bookingOf n).map fun b => b.framesRung).getD 0) (waitPosition s.sched.waits n)
    (((s.waitOf n).map fun e => e.framesWaited).getD 0) :=
  ⟨readByte_lineRecord s n (by decide), readByte_lineRecord s n (i := 0x2A) (by decide),
    readByte_lineRecord s n (i := 0x2B) (by decide), readByte_lineRecord s n (i := 0x2C) (by decide),
    readByte_lineRecord s n (i := 0x2D) (by decide)⟩

/-- In a list with one entry for a line at most, the entry of a line is the one that is found. -/
theorem find?_of_nodup_lines {α : Type} {line : α → LineNo} {as : List α} (h : (as.map line).Nodup)
    {a : α} (ha : a ∈ as) : as.find? (fun x => decide (line x = line a)) = some a := by
  induction as with
  | nil => cases ha
  | cons x xs ih =>
    rw [List.map_cons, List.nodup_cons] at h
    rcases List.mem_cons.1 ha with rfl | hxs
    · simp
    · have hne : line x ≠ line a := fun e => h.1 (e ▸ List.mem_map_of_mem hxs)
      rw [List.find?_cons_of_neg (by simpa using hne), ih h.2 hxs]

theorem find?_eq_none_of_lines {α : Type} {line : α → LineNo} {as : List α} {n : LineNo}
    (h : ∀ a ∈ as, line a ≠ n) : as.find? (fun x => decide (line x = n)) = none := by
  simpa using h

/-- R104: the wait position of the entry at place i from the head is i + 1. -/
theorem waitPosition_of_nodup {ws : List WaitEntry} (h : (ws.map WaitEntry.line).Nodup) {i : Nat}
    {w : WaitEntry} (hw : ws[i]? = some w) : waitPosition ws w.line = i + 1 := by
  induction ws generalizing i with
  | nil => simp at hw
  | cons e ws ih =>
    rw [List.map_cons, List.nodup_cons] at h
    cases i with
    | zero =>
      cases hw
      simp [waitPosition]
    | succ i =>
      rw [List.getElem?_cons_succ] at hw
      have hne : e.line ≠ w.line := fun he =>
        h.1 (he ▸ List.mem_map_of_mem (List.mem_of_getElem? hw))
      simp [waitPosition, hne, ih h.2 hw]

theorem booked_ringEntry {s : State} (hl : ListsMatchStates s) {b : Booking}
    (hb : b ∈ s.sched.bookings) :
    RingEntryShown s (recordBase b.line + 0x29) b.party.val b.rotation.val b.framesRung 0 0 := by
  obtain ⟨hbs, hws, hbn, -⟩ := hl
  have hnone : ∀ w ∈ s.sched.waits, w.line ≠ b.line := fun w hw he => by
    have h1 := (hbs b.line).1 (List.mem_map_of_mem hb)
    have h2 := (hws b.line).1 (he ▸ List.mem_map_of_mem hw)
    rw [h1] at h2
    cases h2
  have hbook : s.bookingOf b.line = some b := find?_of_nodup_lines hbn hb
  have hwait : s.waitOf b.line = none := find?_eq_none_of_lines hnone
  have h := ringEntryShown s b.line
  rw [State.shownParty, hbook, hwait, waitPosition_eq_zero hnone] at h
  exact h

theorem waiting_ringEntry {s : State} (hl : ListsMatchStates s) {i : Nat} {w : WaitEntry}
    (hi : s.sched.waits[i]? = some w) :
    RingEntryShown s (recordBase w.line + 0x29) w.party.val 0 0 (i + 1) w.framesWaited := by
  obtain ⟨hbs, hws, -, hwn⟩ := hl
  have hw := List.mem_of_getElem? hi
  have hnone : ∀ b ∈ s.sched.bookings, b.line ≠ w.line := fun b hb he => by
    have h1 := (hws w.line).1 (List.mem_map_of_mem hw)
    have h2 := (hbs w.line).1 (he ▸ List.mem_map_of_mem hb)
    rw [h1] at h2
    cases h2
  have hbook : s.bookingOf w.line = none := find?_eq_none_of_lines hnone
  have hwait : s.waitOf w.line = some w := find?_of_nodup_lines hwn hw
  have h := ringEntryShown s w.line
  rw [State.shownParty, hbook, hwait, waitPosition_of_nodup hwn hi] at h
  exact h

theorem unlisted_ringEntry {s : State} {n : LineNo} (hb : ∀ b ∈ s.sched.bookings, b.line ≠ n)
    (hw : ∀ w ∈ s.sched.waits, w.line ≠ n) : RingEntryShown s (recordBase n + 0x29) 0 0 0 0 0 := by
  have hbook : s.bookingOf n = none := find?_eq_none_of_lines hb
  have hwait : s.waitOf n = none := find?_eq_none_of_lines hw
  have h := ringEntryShown s n
  rw [State.shownParty, hbook, hwait, waitPosition_eq_zero hw] at h
  exact h

/-! ### The record, whole -/

/-- The flags byte: leakage high, card absent, count fault, learning (Line record). -/
theorem lineFlags_bits (s : State) (n : LineNo) :
    (s.lineFlags n).toNat < 16 ∧ (s.lineFlags n).getLsbD 0 = (s.line n).cls.leakageHigh ∧
      (s.lineFlags n).getLsbD 1 = (!s.cardPresent n) ∧
      (s.lineFlags n).getLsbD 2 = (s.line n).rep.countFault ∧
      ((s.lineFlags n).getLsbD 3 = true ↔ (s.line n).sup.state = .learning) := by
  unfold State.lineFlags
  refine ⟨?_, flagByte_bit _ (by decide), flagByte_bit _ (by decide), flagByte_bit _ (by decide), ?_⟩
  · generalize (s.line n).cls.leakageHigh = a
    generalize (!s.cardPresent n) = b
    generalize (s.line n).rep.countFault = c
    generalize decide ((s.line n).sup.state = .learning) = d
    revert a b c d
    decide
  · rw [flagByte_bit _ (by decide)]
    simp

theorem recordShows {s : State} (hr : RingListsConsistent s) (hv : ValuesInRange s) (n : LineNo) :
    RecordShows s n := by
  obtain ⟨-, -, hlists, -⟩ := hr
  obtain ⟨-, -, hcls⟩ := hv
  obtain ⟨hbase, -⟩ := hcls n
  have byte (i : Nat) (h : 0x20 ≤ i ∧ i < 0x80) := readByte_lineRecord s n h
  have entry (i : Fin 8) (j : Nat) (hj : j < 8) := readByte_reportEntry s n i hj
  have hwlen := length_le_of_nodup_lines hlists.2.2.2
  refine ⟨?_, ?_, ?_, ?_, ?_, byte 0x26 (by decide), byte 0x27 (by decide), ?_, ?_, ?_,
    unlisted_ringEntry, byte 0x2E (by decide), ?_, ?_, fun i => ⟨entry i 0 (by decide),
      entry i 1 (by decide), ?_, ?_, entry i 6 (by decide), entry i 7 (by decide)⟩⟩
  · rw [byte 0x20 (by decide)]
    change (BitVec.ofNat 8 (s.line n).sup.state.code).toNat = _
    cases (s.line n).sup.state <;> rfl
  · rw [byte 0x21 (by decide)]
    change (if (s.line n).cls.confirmed = .closed then (1 : Byte) else 0).toNat = _
    cases (s.line n).cls.confirmed <;> rfl
  · rw [byte 0x22 (by decide)]
    exact byte_toNat (v := (s.line n).cls.baseline / 16) (by omega)
  · rw [byte 0x23 (by decide)]
    exact lineFlags_bits s n
  · have h0 : s.readByte (recordBase n + 0x24) = byteAt (s.line n).cls.baseline 0 := byte 0x24 (by decide)
    have h1 : s.readByte (recordBase n + 0x24 + 1) = byteAt (s.line n).cls.baseline 1 :=
      byte 0x25 (by decide)
    unfold fieldAt
    rw [h0, h1]
    exact twoBytes_toNat (by omega)
  · rw [byte 0x28 (by decide)]
    change (BitVec.ofNat 8 (((s.line n).lastOutcome.map OrderOutcome.code).getD 0)).toNat = _
    cases (s.line n).lastOutcome with
    | none => rfl
    | some o => cases o <;> rfl
  · rintro b hb rfl
    exact booked_ringEntry hlists hb
  · rintro i w hi rfl
    have h := waiting_ringEntry hlists hi
    have hlt : i < s.sched.waits.length := (List.getElem?_eq_some_iff.1 hi).1
    exact ⟨(congrArg BitVec.toNat h.2.2.2.1).trans (byte_toNat (by omega)), h⟩
  · rw [byte 0x2F (by decide)]
    exact byte_toNat (v := (s.line n).sup.profile.val) (by omega)
  · intro i h30 h40
    rw [byte i (by omega)]
    interval_cases i <;> rfl
  · rw [entry i 3 (by decide), entry i 2 (by decide)]
    exact joinBytes_bytes _
  · rw [entry i 5 (by decide), entry i 4 (by decide)]
    exact joinBytes_bytes _

/-- Settles O3: the header and the records are read byte by byte, each value in range of its byte or word. -/
theorem shelfTimeAdvancesByOne : Obligations.ShelfTimeAdvancesByOne := by
  refine ⟨fun s => ⟨{ s with shelfTime := s.shelfTime + 1 }, rfl, ?_, ?_, rfl, rfl⟩,
    fun s hr hv => ⟨headerShows hr hv, recordShows hr hv⟩⟩
  · rw [timeField_eq, timeField_eq, BitVec.ofNat_add]
    rfl
  · have hword : State.readWord { s with shelfTime := s.shelfTime + 1 } 0x3FFF =
        BitVec.ofNat 16 (s.shelfTime + 1) := joinBytes_bytes _
    rw [hword, timeField_eq]
    apply BitVec.eq_of_toNat_eq
    simp only [BitVec.toNat_ofNat, BitVec.toNat_setWidth]
    omega

end Sys2Proof.Machine
end

section
/-! PROOFS. O13: what a parameter load makes of the general parameters. -/

namespace Sys2Proof.Machine

/-! ### Clamping and rounding (R21) -/

theorem clamp_eq_self_iff {least greatest : Nat} (h : least ≤ greatest) (v : Nat) :
    clamp least greatest v = v ↔ least ≤ v ∧ v ≤ greatest := by
  unfold clamp
  omega

theorem roundEven_eq_two_mul (v : Nat) : roundEven v = 2 * (v / 2) := by
  unfold roundEven
  omega

/-- A value is left as it is exactly when it is even and in the range, if the range ends at even values. -/
theorem roundEven_clamp_eq_self_iff {least greatest : Nat} (h : least ≤ greatest)
    (hl : least % 2 = 0) (hg : greatest % 2 = 0) (v : Nat) :
    roundEven (clamp least greatest v) = v ↔ least ≤ v ∧ v ≤ greatest ∧ v % 2 = 0 := by
  unfold roundEven clamp
  omega

/-- R21: a load leaves the general parameters as written exactly when each of them is in its range. -/
theorem RawGeneral.adjusted_eq_self_iff (g : RawGeneral) : g.adjusted = g ↔
    g.capacity ≤ 1000 ∧ g.tripMode ≤ 1 ∧
    (10 ≤ g.guardTime ∧ g.guardTime ≤ 200 ∧ g.guardTime % 2 = 0) ∧
    (5 ≤ g.halfPeriod ∧ g.halfPeriod ≤ 40) ∧ (1 ≤ g.waitLimit ∧ g.waitLimit ≤ 20) ∧
    (1 ≤ g.priorityAge ∧ g.priorityAge ≤ 10) ∧ g.testLow ≤ g.testHigh := by
  have htrip : (if 1 < g.tripMode then 1 else g.tripMode) = g.tripMode ↔ g.tripMode ≤ 1 := by
    split <;> omega
  obtain ⟨tripMode, capacity, guardTime, halfPeriod, waitLimit, priorityAge, quietMask, testLow,
    testHigh⟩ := g
  simp only [RawGeneral.adjusted, RawGeneral.mk.injEq, htrip, max_eq_left_iff, zero_le,
    clamp_eq_self_iff (Nat.zero_le 1000), clamp_eq_self_iff (show 5 ≤ 40 by decide),
    clamp_eq_self_iff (show 1 ≤ 20 by decide), clamp_eq_self_iff (show 1 ≤ 10 by decide),
    roundEven_clamp_eq_self_iff (show 10 ≤ 200 by decide) rfl rfl]
  tauto

/-- Settles O13: each field is its clamped field of the block, and the ranges are those of
`State.loadedParams_general`. -/
theorem generalParametersClamped : Obligations.GeneralParametersClamped := by
  intro s
  refine ⟨?_, ?_, roundEven_eq_two_mul _, rfl, rfl, rfl, fun k => ?_, rfl, rfl,
    s.loadedParams_general, s.rawGeneral.adjusted_eq_self_iff⟩
  · exact Nat.zero_max _
  · refine if_congr ?_ rfl rfl
    rw [← BitVec.toNat_inj]
    change (if 1 < (s.hostByte 0x101).toNat then 1 else (s.hostByte 0x101).toNat) = 0 ↔ _
    split
    · next h => exact iff_of_false (by decide) (Nat.ne_of_gt (Nat.zero_lt_of_lt h))
    · exact Iff.rfl
  · simp [State.loadedParams, RawGeneral.adjusted, State.rawGeneral]

end Sys2Proof.Machine
end

section
/-! PROOFS. O9, O16: the adjusted maps, writes that meet an operation, and the start of the shelf with its load. -/

namespace Sys2Proof.Machine

open Sys2Proof.Safety

/-! ### The adjusted maps (R20, stage 5) -/

/-- The sum of the powers of two that a test picks is the number with those bits. -/
theorem sum_picked_powers (k : Nat) (q : Fin k → Prop) [DecidablePred q] :
    ((List.finRange k).map fun i => if q i then 2 ^ i.val else 0).sum =
      bitsValue ((List.finRange k).map fun i => decide (q i)) := by
  induction k with
  | zero => rfl
  | succ k ih =>
    have htail : ((List.finRange k).map fun i : Fin k => if q i.succ then 2 ^ i.succ.val else 0).sum =
        2 * bitsValue ((List.finRange k).map fun i => decide (q i.succ)) := by
      rw [← ih fun i => q i.succ, ← List.sum_map_mul_left]
      congr 1
      refine List.map_congr_left fun i _ => ?_
      split
      · rw [Fin.val_succ, pow_succ']
      · rfl
    have hhead : (if q 0 then 2 ^ (0 : Fin (k + 1)).val else 0) = (decide (q 0)).toNat := by
      split <;> simp_all
    simp only [List.finRange_succ, List.map_cons, List.map_map, List.sum_cons, bitsValue,
      Function.comp_def, htail, hhead]

/-- Bit i of a map of k bits says whether the test picks i. -/
theorem picked_bit {k : Nat} (q : Fin k → Prop) [DecidablePred q] (i : Fin k) :
    (BitVec.ofNat k ((List.finRange k).map fun j => if q j then 2 ^ j.val else 0).sum).getLsbD i.val =
      decide (q i) := by
  rw [sum_picked_powers, BitVec.getLsbD_ofNat, bitsValue_testBit]
  simp [List.getD_eq_getElem?_getD]

/-- R20: bit p of the profile-adjusted map says whether the load adjusts profile p. -/
theorem State.profileMap_bit (s : State) (p : Fin 8) : s.profileMap.getLsbD p.val =
    decide (s.loadedParams.profiles[p] ≠ s.rawProfile p) := by
  have hp : s.loadedParams.profiles[p] = (s.rawProfile p).adjusted := by simp [State.loadedParams]
  rw [hp]
  exact picked_bit (fun p => (s.rawProfile p).adjusted ≠ s.rawProfile p) p

/-- R20, R89: bit c of the code-adjusted map says whether compiling code c adjusts it. -/
theorem State.codeMap_bit (s : State) (c : Fin 16) :
    s.codeMap.getLsbD c.val = (s.rawCode c).isAdjusted :=
  (picked_bit (fun c => (s.rawCode c).isAdjusted = true) c).trans Bool.decide_eq_true

/-- A map of bits is 0 exactly when it has none. -/
theorem bits_ne_zero_iff {k : Nat} (w : BitVec k) : w ≠ 0 ↔ ∃ i : Fin k, w.getLsbD i.val = true := by
  constructor
  · intro h
    by_contra hnone
    refine h (BitVec.eq_of_getLsbD_eq fun i hi => ?_)
    simpa using fun hbit => hnone ⟨⟨i, hi⟩, hbit⟩
  · rintro ⟨i, hi⟩ rfl
    simp at hi

/-- R20, stage 5: a load adjusts exactly when a general parameter, a profile or a code is adjusted. -/
theorem State.loadAdjusts_iff (s : State) : s.loadAdjusts = true ↔
    s.rawGeneral.adjusted ≠ s.rawGeneral ∨
      (∃ p : Fin 8, s.loadedParams.profiles[p] ≠ s.rawProfile p) ∨
      ∃ c : Fin 16, (s.rawCode c).isAdjusted = true := by
  simp only [State.loadAdjusts, Bool.or_eq_true, decide_eq_true_eq, bits_ne_zero_iff,
    State.profileMap_bit, State.codeMap_bit, or_assoc]

/-! ### Writes beside the other bits of the port (R3) -/

/-- The port with its two control bits and *parameters adjusted* set: what Shelf Control writes of it. -/
def MemoryPort.withBits (p : MemoryPort) (run interruptEnable adjusted : Bool) : MemoryPort :=
  { p with run := run, interruptEnable := interruptEnable, parametersAdjusted := adjusted }

theorem writeWorkMemory_of_withBits {s u : State} {r e a : Bool} (h : u.port = s.port.withBits r e a)
    (w : BusWrite) : u.writeWorkMemory w = { u with port := (s.writeWorkMemory w).port.withBits r e a } := by
  have hmem : u.port.mem = s.port.mem := by rw [h]; rfl
  unfold State.writeWorkMemory
  split
  · rw [← h]
  · split
    · rw [hmem, h]
      rfl
    · rw [h]
      rfl

/-- Writes store the same bytes whatever the other bits of the port, and the rest of the state, are. -/
theorem writes_of_withBits {s u : State} {r e a : Bool} (h : u.port = s.port.withBits r e a)
    (ws : List BusWrite) : u.writes ws = { u with port := (s.writes ws).port.withBits r e a } := by
  induction ws generalizing s u with
  | nil => exact congrArg (fun p => { u with port := p }) h
  | cons w ws ih =>
    rw [State.writes_cons, writeWorkMemory_of_withBits h w]
    exact ih rfl

/-- Writes keep the other bits of the port. -/
theorem writes_withBits_self (s : State) (ws : List BusWrite) (a : Bool) :
    (s.writes ws).port.withBits s.port.run s.port.interruptEnable a =
      { (s.writes ws).port with parametersAdjusted := a } := by
  rw [← s.writes_port_run ws, ← s.writes_port_interruptEnable ws]
  rfl

/-- Writes change the port alone, and by the port alone. -/
theorem writes_of_port_eq {s u : State} (h : u.port = s.port) (ws : List BusWrite) :
    u.writes ws = { u with port := (s.writes ws).port } := by
  rw [writes_of_withBits (r := s.port.run) (e := s.port.interruptEnable) (a := s.port.parametersAdjusted)
    h, writes_withBits_self, ← s.writes_port_parametersAdjusted ws]

theorem landed_of_port_eq {s u : State} (h : u.port = s.port) (early late : List BusWrite) :
    u.landed early late = { u with port := (s.landed early late).port } := by
  rw [State.landed_eq, State.landed_eq, writes_of_port_eq h]

/-- R20: a load reads the block with the early writes, and the late ones are stored after it, whatever the other
bits of the port, and the rest of the state, are. -/
theorem loadMeeting_of_withBits {s u : State} {r e a : Bool} (h : u.port = s.port.withBits r e a)
    (early late : List BusWrite) : u.loadMeeting early late =
      { { u with port := (s.writes early).port }.loadParams with
        port := (s.landed early late).port.withBits r e (a || (s.writes early).loadAdjusts) } := by
  rw [State.loadMeeting_eq, writes_of_withBits h early,
    writes_of_withBits (s := s.writes early) (r := r) (e := e) (a := a || (s.writes early).loadAdjusts)
      rfl late]
  rfl

/-- The state with RUN and INTERRUPT ENABLE stored, before what the write of them brings about (R7). -/
def State.stored (s : State) (run interruptEnable : Bool) : State :=
  { s with port.run := run, port.interruptEnable := interruptEnable }

theorem stored_port (s : State) (run e : Bool) :
    (s.stored run e).port = s.port.withBits run e s.port.parametersAdjusted := rfl

/-- Writes land the same before and after the two bits are stored. -/
theorem stored_landed (s : State) (run e : Bool) (early late : List BusWrite) :
    (s.stored run e).landed early late = (s.landed early late).stored run e := by
  rw [State.landed_eq, State.landed_eq, writes_of_withBits (stored_port s run e),
    writes_of_port_eq (s := s) rfl, ← s.writes_port_parametersAdjusted (early ++ late)]
  rfl

/-- R20: the generation field stands at the head of the parameter block. -/
theorem readByte_generationField (s : State) : s.readByte 0x100 = s.generationField :=
  State.readByte_hostOwned s (by decide)

/-! ### The start of the shelf (R16, R20) -/

/-- What a load that reads the block of `r` leaves of Shelf Control in STARTING (R16, R17, R20). -/
def State.startedControl (s r : State) : ShelfControl :=
  { shelf := .starting, startingEnd := some (s.shelfTime + Config.startingMs)
    params := r.loadedParams, generationTaken := r.generationField
    profileAdjusted := r.profileMap, codeAdjusted := r.codeMap }

/-- The part after RUN in HALTED. -/
def State.started (s : State) (e : Bool) (early late : List BusWrite) : State :=
  (s.stored true e).startShelf early late

/-- R16: a start, whole: Shelf Control and the Monitor are set, the lines are sent to LEARNING, and the writes
land about the load. -/
theorem started_eq (s : State) (e : Bool) (early late : List BusWrite) : s.started e early late =
      { s with
        lines := (s.mapLines fun _ l => l.startRun).lines
        sent := (s.mapLines fun _ l => l.startRun).sent
        control := s.startedControl (s.writes early)
        source := .idle
        port := (s.landed early late).port.withBits true e
          (s.port.parametersAdjusted || (s.writes early).loadAdjusts)
        sched.waits := s.sched.waits.map fun w => w.judged (s.writes early).loadedParams.priorityAge } := by
  unfold State.started State.startShelf
  rw [loadMeeting_of_withBits (stored_port s true e)]
  rfl

theorem exec_run_of_halted {s : State} (h : s.control.shelf = .halted) (e : Bool)
    (early late : List BusWrite) : exec (.run e early late) s = .next (s.started e early late) :=
  congrArg Host.Outcome.next (if_pos h)

theorem exec_run_of_not_halted {s : State} (h : s.control.shelf ≠ .halted) (e : Bool)
    (early late : List BusWrite) :
    exec (.run e early late) s = .next ((s.landed early late).stored true e) :=
  congrArg Host.Outcome.next ((if_neg h).trans (stored_landed s true e early late))

theorem started_line (s : State) (e : Bool) (early late : List BusWrite) (n : LineNo) :
    (s.started e early late).line n = (s.line n).startRun := by
  rw [started_eq]
  exact (State.line_congr rfl n).trans (State.mapLines_line s (fun _ l => l.startRun) n)

theorem started_port (s : State) (e : Bool) (early late : List BusWrite) :
    (s.started e early late).port = (s.landed early late).port.withBits true e
      (s.port.parametersAdjusted || (s.writes early).loadAdjusts) := by
  rw [started_eq]

theorem started_control (s : State) (e : Bool) (early late : List BusWrite) :
    (s.started e early late).control = s.startedControl (s.writes early) := by
  rw [started_eq]

/-- R24: a started shelf samples every line whose card is present. -/
theorem started_delivers (s : State) (e : Bool) (early late : List BusWrite) (n : LineNo) :
    (s.started e early late).delivers n = s.cardPresent n := by
  have hslots : (s.started e early late).slots = s.slots := by
    rw [started_eq]
  unfold State.delivers
  rw [started_control, State.cardPresent_congr hslots]
  exact Bool.true_and _

/-- Host-owned bytes read alike where the stored bytes are the same (R2). -/
theorem hostBytesKept_of_mem {s t : State} (h : t.port.mem = s.port.mem) : HostBytesKept s t := by
  intro off ho
  rw [State.readByte_hostOwned _ ho, State.readByte_hostOwned _ ho]
  unfold State.hostByte
  rw [h]

theorem started_hostBytes (s : State) (e : Bool) (early late : List BusWrite) :
    HostBytesKept (s.landed early late) (s.started e early late) :=
  hostBytesKept_of_mem (by rw [started_port]; rfl)

/-- R130: lines that keep their settings are sent no word. -/
theorem mapLines_sent_of_settings {s : State} {g : LineNo → Line → Line}
    (h : ∀ n, (s.line n).setting = (g n (s.line n)).setting) : (s.mapLines g).sent = s.sent := by
  unfold State.mapLines
  simp [h]

/-- R18, R69: at rest a line has no tone, so LEARNING, which has none, keeps its setting. -/
theorem startRun_setting {s : State} (hhalted : s.control.shelf = .halted) (hrest : HaltedLinesRest s)
    (htones : TonesFit s) (n : LineNo) : (s.line n).setting = (s.line n).startRun.setting := by
  unfold Line.startRun
  split
  · rfl
  · next hin =>
    have hidle : s.stateOf n = .idle := (hrest hhalted n).resolve_right hin
    have htone := LineToneFits.tone_none (htones n) hidle fun _ => rfl
    exact (Line.enterFresh_setting .learning htone).symm

theorem started_sent {s : State} (hhalted : s.control.shelf = .halted) (hrest : HaltedLinesRest s)
    (htones : TonesFit s) (e : Bool) (early late : List BusWrite) :
    (s.started e early late).sent = s.sent := by
  rw [started_eq]
  exact mapLines_sent_of_settings fun n => startRun_setting hhalted hrest htones n

/-- Settles O9: the start is `started_eq`; RUN in the other shelf states is `stored_landed`. -/
theorem runStartsTheShelf : Obligations.RunStartsTheShelf := by
  refine ⟨fun e early late s hhalted => ⟨_, exec_run_of_halted hhalted e early late, ?_⟩,
    fun e early late s hon => exec_run_of_not_halted hon e early late⟩
  refine ⟨?_, fun hrest htones => started_sent hhalted hrest htones e early late,
    fun n => started_line s e early late n, ?_⟩
  · rw [started_control, State.startedControl, readByte_generationField]
  · have hbytes := started_hostBytes s e early late
    have hdelivers := started_delivers s e early late
    rw [started_eq] at hbytes hdelivers ⊢
    exact ⟨rfl, rfl, hdelivers, rfl, hbytes, rfl, rfl, rfl, rfl, rfl, rfl⟩

/-! ### What the header shows of a load (R4, R20) -/

theorem readByte_generationTaken (s : State) : s.readByte 0x03 = s.control.generationTaken :=
  s.readByte_header (by decide)

theorem readByte_profileAdjusted (s : State) : s.readByte 0x1C = s.control.profileAdjusted :=
  s.readByte_header (by decide)

theorem readWord_codeAdjusted (s : State) : s.readWord 0x0F = s.control.codeAdjusted :=
  joinBytes_bytes s.control.codeAdjusted

/-- Settles O16: Shelf Control shows what the load read of the block, and its maps bit by bit. -/
theorem loadRecordsAdjustments : Obligations.LoadRecordsAdjustments := by
  intro e early late s hhalted
  have hcontrol := started_control s e early late
  refine ⟨_, exec_run_of_halted hhalted e early late, ?_, started_hostBytes s e early late, fun p => ?_,
    fun c => ?_, ?_⟩
  · rw [readByte_generationTaken, hcontrol, readByte_generationField]
    rfl
  · rw [readByte_profileAdjusted, hcontrol]
    exact State.profileMap_bit _ p
  · rw [readWord_codeAdjusted, hcontrol]
    exact State.codeMap_bit _ c
  · rw [started_port, ← State.loadAdjusts_iff]
    exact Bool.or_eq_true_iff

end Sys2Proof.Machine
end

section
/-! PROOFS. O10, O11: a halt and a soft reset. -/

namespace Sys2Proof.Machine

open Sys2Proof.Safety

/-! ### The words of an operation of all lines (R130) -/

/-- Where each line of a list is sent words of its own, those for one line of the list are its own words. -/
theorem filter_flatMap_words {words : LineNo → List RelayWord} (hw : ∀ m, ∀ x ∈ words m, x.line = m)
    {n : LineNo} {ns : List LineNo} (hnodup : ns.Nodup) (hn : n ∈ ns) :
    (ns.flatMap words).filter (fun x => decide (x.line = n)) = words n := by
  have hown : (words n).filter (fun x => decide (x.line = n)) = words n :=
    List.filter_eq_self.2 fun x hx => decide_eq_true (hw n x hx)
  have hother (ms : List LineNo) (hms : n ∉ ms) :
      (ms.flatMap words).filter (fun x => decide (x.line = n)) = [] := by
    rw [List.filter_eq_nil_iff]
    intro x hx
    obtain ⟨m, hm, hxm⟩ := List.mem_flatMap.1 hx
    rw [decide_eq_true_eq, hw m x hxm]
    rintro rfl
    exact hms hm
  obtain ⟨before, after, rfl⟩ := List.append_of_mem hn
  rw [List.nodup_append, List.nodup_cons] at hnodup
  obtain ⟨-, ⟨hafter, -⟩, hbefore⟩ := hnodup
  rw [List.flatMap_append, List.flatMap_cons, List.filter_append, List.filter_append, hown,
    hother before fun h => hbefore n h n (by simp) rfl, hother after hafter]
  simp

/-- The words for one line among those of all lines, in whatever order the lines come. -/
theorem filter_allLines {words : LineNo → List RelayWord} (hw : ∀ m, ∀ x ∈ words m, x.line = m)
    (n : LineNo) : ((List.finRange 64).reverse.flatMap words).filter (fun x => decide (x.line = n)) =
      words n :=
  filter_flatMap_words hw (List.nodup_reverse.2 (List.nodup_finRange 64)) (by simp)

/-! ### A halt (R18) -/

/-- R18: a halt, whole: the lines are halted and sent their words, and the scheduler and the Monitor stand. -/
theorem haltShelf_eq (s : State) : s.haltShelf = { s with
    lines := (s.mapLines fun _ l => l.halted).lines
    sent := (s.mapLines fun _ l => l.halted).sent
    control.shelf := .halted, control.startingEnd := none, sched := .idle, source := .idle } := by
  simp only [State.haltShelf, State.mapLines]

theorem haltShelf_line (s : State) (n : LineNo) : s.haltShelf.line n = (s.line n).halted :=
  (State.line_congr (congrArg State.lines (haltShelf_eq s)) n).trans
    (State.mapLines_line s (fun _ l => l.halted) n)

/-- R18, R130: a halt sends a line its released word where its card is present and it was not released. -/
theorem relayWords_halted (present : Bool) (n : LineNo) (l : Line) : relayWords present n l l.halted =
    if present = true ∧ l.setting ≠ .released then [{ line := n, setting := .released }] else [] := by
  have hreleased : l.halted.setting = .released := rfl
  simp [relayWords, hreleased]

/-- R18, R130: a halt sends the words of `ReleasedWordsSent`, and no other. -/
theorem haltShelf_releasedWords (s : State) : ReleasedWordsSent s s.haltShelf := by
  refine ⟨_, congrArg State.sent (haltShelf_eq s), fun n => ?_⟩
  rw [filter_allLines (fun m x => relayWords_line) n, relayWords_halted]

/-- R142: the attention count is that of the attention bits. -/
theorem attentionCount_congr {s t : State} (h : ∀ n, t.attentionBit n = s.attentionBit n) :
    t.attentionCount = s.attentionCount := by
  unfold State.attentionCount
  rw [show t.attentionBit = s.attentionBit from funext h]

/-- R18: a halt keeps every report list and its attention bit. -/
theorem haltShelf_attentionCount (s : State) : s.haltShelf.attentionCount = s.attentionCount :=
  attentionCount_congr fun n => by
    unfold State.attentionBit
    rw [haltShelf_line]
    rfl

theorem exec_halt_of_not_halted {s : State} (h : s.control.shelf ≠ .halted) (e : Bool) :
    exec (.halt e) s = .next (s.stored false e).haltShelf :=
  congrArg Host.Outcome.next (if_neg h)

theorem exec_halt_of_halted {s : State} (h : s.control.shelf = .halted) (e : Bool) :
    exec (.halt e) s = .next (s.stored false e) :=
  congrArg Host.Outcome.next (if_pos h)

/-- Settles O10: the halt is `haltShelf_eq`, with the two bits stored before it. -/
theorem haltEndsAllWork : Obligations.HaltEndsAllWork := by
  refine ⟨fun e s hon => ⟨_, exec_halt_of_not_halted hon e, haltShelf_line (s.stored false e), ?_⟩,
    fun e s hhalted => exec_halt_of_halted hhalted e⟩
  have hwords := haltShelf_releasedWords (s.stored false e)
  have hcount := haltShelf_attentionCount (s.stored false e)
  rw [haltShelf_eq] at hwords hcount ⊢
  exact ⟨rfl, rfl, rfl, hwords, rfl, hostBytesKept_of_mem rfl, rfl, rfl, rfl, hcount, rfl, rfl⟩

/-! ### A soft reset (R19) -/

/-- R19: the taken count stands in the inbound area of the line record. -/
theorem readByte_takenCount (s : State) (n : LineNo) : s.readByte (recordBase n + 0x18) = s.takenCount n :=
  State.readByte_hostOwned s (hostOwned_iff.2 (.inr (by unfold recordBase; omega)))

theorem Line.softReset_setting (l : Line) (taken : Byte) : (l.softReset taken).setting = l.setting := rfl

/-- The halt has released the lines, so that what a soft reset does beyond it sends no word (R130). -/
theorem softReset_sent (s : State) : s.softReset.sent = s.haltShelf.sent := by
  have hwords : (s.haltShelf.mapLines fun n l => l.softReset (s.takenCount n)).sent = s.haltShelf.sent :=
    mapLines_sent_of_settings fun n => (Line.softReset_setting _ _).symm
  rw [← hwords, State.softReset]

/-- R19: a soft reset, whole but for the lines: a halt, with the latch and the two bits beyond it. -/
theorem softReset_eq (s : State) : s.softReset = { s with
    lines := s.softReset.lines
    sent := s.haltShelf.sent
    control.shelf := .halted, control.startingEnd := none, sched := .idle, source := .idle, latch := none
    port := { s.port with run := false, interruptEnable := false } } := by
  rw [← softReset_sent]
  simp only [State.softReset, State.haltShelf, State.mapLines]

/-- Settles O11: the lines are halted and then reset, `softReset_line`, and all else is `softReset_eq`. -/
theorem softResetReturnsToPowerOn : Obligations.SoftResetReturnsToPowerOn := by
  intro r e s
  refine ⟨_, rfl, fun n => ?_, ?_⟩
  · rw [softReset_line, haltShelf_line, readByte_takenCount]
    rfl
  · have hwords := haltShelf_releasedWords s
    have hcount : s.softReset.attentionCount = 0 := by
      refine List.countP_eq_zero.2 fun n _ => ?_
      unfold State.attentionBit
      rw [softReset_line]
      exact Bool.false_ne_true
    rw [softReset_eq] at hcount ⊢
    exact ⟨rfl, rfl, rfl, rfl, hcount, rfl, hwords, rfl, hostBytesKept_of_mem rfl, rfl, rfl, rfl, rfl⟩

end Sys2Proof.Machine
end

section
/-! PROOFS. O12: the end of STARTING, whose boundary finds both ring lists empty. -/

namespace Sys2Proof.Machine

open Sys2Proof.Safety

/-! ### The stages of a boundary with empty ring lists (R109) -/

theorem mapLines_eq (s : State) (g : LineNo → Line → Line) : s.mapLines g =
    { s with lines := (s.mapLines g).lines, sent := (s.mapLines g).sent } := by
  simp only [State.mapLines]

/-- A change that leaves every line as it is changes nothing and sends no word (R130). -/
theorem mapLines_of_unchanged {s : State} {g : LineNo → Line → Line}
    (h : ∀ n, g n (s.line n) = s.line n) : s.mapLines g = s := by
  have hlines : (s.mapLines g).lines = s.lines := by
    rw [State.mapLines_lines, funext h]
    exact Vector.ofFn_getElem
  have hsent : (s.mapLines g).sent = s.sent := mapLines_sent_of_settings fun n => by rw [h]
  rw [mapLines_eq, hlines, hsent]

/-- R110: without a booking no frame ends. -/
theorem frameEnds_of_no_bookings {s : State} (h : s.sched.bookings = []) (c : FrameSlot) :
    s.frameEnds c = s := by
  simp [State.frameEnds, State.frameEndLines, h]

theorem setBookings_nil {s : State} (h : s.sched.bookings = []) : { s with sched.bookings := [] } = s := by
  rw [← h]

theorem setWaits_nil {s : State} (h : s.sched.waits = []) : { s with sched.waits := [] } = s := by
  rw [← h]

/-- R112: without a booking no relay is asked to follow one. -/
theorem relayRequests_of_no_bookings {s : State} (h : s.sched.bookings = []) (c : FrameSlot) :
    s.relayRequests c = s := by
  unfold State.relayRequests
  rw [mapLines_of_unchanged, h]
  · exact setBookings_nil h
  · intro n
    simp [State.bookingOf, h]

/-- R113: without a wait entry none is counted. -/
theorem countWaits_of_no_waits {s : State} (h : s.sched.waits = []) (begun : List LineNo) :
    s.countWaits begun = s := by
  unfold State.countWaits
  rw [h]
  exact setWaits_nil h

/-- R100, R102: without a booking none is evicted. -/
theorem evict_of_no_bookings {s : State} (h : s.sched.bookings = []) : s.evict = s := by
  unfold State.evict
  rw [h]
  exact setBookings_nil h

/-- R119: without a booking none is given a change. -/
theorem reloadChanges_of_no_bookings {s : State} (h : s.sched.bookings = []) : s.reloadChanges = s := by
  unfold State.reloadChanges
  rw [h]
  exact setBookings_nil h

/-- R20, R22: without a booking the reload check is the comparison of the generations and the load alone. -/
theorem reloadCheck_of_no_bookings {s : State} (h : s.sched.bookings = []) (early late : List BusWrite) :
    s.reloadCheck early late = if s.generationField = s.control.generationTaken
      then s.landed early late else s.loadMeeting early late := by
  have hloaded : (s.loadMeeting early late).sched.bookings = [] := by simpa [State.loadMeeting] using h
  unfold State.reloadCheck
  rw [evict_of_no_bookings hloaded, reloadChanges_of_no_bookings hloaded]

/-- R109: stages 4 and 5 of the boundary of slot 0 are the reload check, where both ring lists are empty. -/
theorem boundaryTail_of_empty {s : State} (hb : s.sched.bookings = []) (hw : s.sched.waits = [])
    (begun : List LineNo) (early late : List BusWrite) :
    s.boundaryTail 0 begun early late = s.reloadCheck early late := by
  have hwaits : (s.reloadCheck early late).sched.waits = [] := by
    rw [reloadCheck_of_no_bookings hb]
    split
    · simpa [State.landed] using hw
    · simpa [State.loadMeeting] using hw
  rw [State.boundaryTail, countWaits_of_no_waits hw, if_pos rfl, hwaits]
  exact ite_self _

/-- R91: the state with the slot clock started at `time`. -/
def State.clockStarted (s : State) (time : Nat) : State :=
  { s with sched.slot := 0, sched.nextBoundary := some (time + Config.slotMs) }

/-- R91, R109: where both ring lists are empty, the first boundary starts the slot clock and makes the reload
check. -/
theorem firstBoundary_of_empty {s : State} (hb : s.sched.bookings = []) (hw : s.sched.waits = [])
    (time : Nat) (early late : List BusWrite) :
    s.boundary true time early late = (s.clockStarted time).reloadCheck early late := by
  have hclock : (s.clockStarted time).sched.bookings = [] := hb
  have hstages : s.boundary true time early late =
      (((s.clockStarted time).frameEnds 0).relayRequests 0).boundaryTail 0
        (s.sched.waits.map WaitEntry.line) early late := by
    rw [State.boundary, State.nextSlot, if_pos rfl, State.clockStarted]
  rw [hstages, frameEnds_of_no_bookings hclock, relayRequests_of_no_bookings hclock]
  exact boundaryTail_of_empty hclock hw _ early late

/-! ### The end of STARTING (R17) -/

/-- R17: the state that enters RUNNING, before its first boundary. -/
def State.entering (s : State) : State := { s with control.shelf := .running, control.startingEnd := none }

/-- R17, R91: the state that has entered RUNNING, before the reload check of its first boundary. -/
def State.entered (s : State) : State := s.entering.clockStarted s.shelfTime

theorem enterRunning_of_empty {s : State} (hb : s.sched.bookings = []) (hw : s.sched.waits = [])
    (early late : List BusWrite) :
    s.enterRunning early late = if s.generationField = s.control.generationTaken
      then s.entered.landed early late else s.entered.loadMeeting early late := by
  change s.entering.boundary true s.shelfTime early late = _
  rw [firstBoundary_of_empty (s := s.entering) hb hw]
  exact reloadCheck_of_no_bookings (s := s.entered) hb early late

theorem entered_port (s : State) : s.entered.port =
    s.port.withBits s.port.run s.port.interruptEnable s.port.parametersAdjusted := rfl

/-- R20, R22: the load at the first boundary, with the wait list empty. -/
theorem entered_loadMeeting {s : State} (hw : s.sched.waits = []) (early late : List BusWrite) :
    s.entered.loadMeeting early late = { s.entered with
      control := { shelf := .running, startingEnd := none, params := (s.writes early).loadedParams
                   generationTaken := (s.writes early).generationField
                   profileAdjusted := (s.writes early).profileMap, codeAdjusted := (s.writes early).codeMap }
      port := { (s.landed early late).port with
        parametersAdjusted := s.port.parametersAdjusted || (s.writes early).loadAdjusts } } := by
  have hwaits : s.entered.sched.waits = [] := hw
  rw [loadMeeting_of_withBits (entered_port s), State.landed_eq, writes_withBits_self, State.loadParams]
  dsimp only
  rw [hwaits, List.map_nil, ← hwaits]
  rfl

/-- R17: STARTING is not over before its end. -/
theorem startingOver_eq_false {s : State}
    (h : s.control.shelf ≠ .starting ∨ ∀ e, s.control.startingEnd = some e → s.shelfTime < e) :
    s.startingOver = false := by
  unfold State.startingOver
  rcases h with h | h
  · rw [decide_eq_false h, Bool.false_and]
  · rw [Bool.and_eq_false_iff, Option.any_eq_false]
    exact .inr fun e he => by simpa using h e he

/-- Settles O12: the boundary of slot 0 is its reload check, `enterRunning_of_empty`. -/
theorem startingEndsInRunning : Obligations.StartingEndsInRunning := by
  refine ⟨fun e early late s hstarting hend hdue hb hw => ?_, fun early late s hnot => ?_⟩
  · have hover : s.startingOver = true := by
      simp [State.startingOver, hstarting, hend, hdue]
    have hexec : exec (.startingEnd early late) s = .next (s.enterRunning early late) :=
      congrArg Host.Outcome.next (if_pos hover)
    refine ⟨_, hexec, ?_⟩
    rw [readByte_generationField, readByte_generationField, enterRunning_of_empty hb hw]
    split
    · rw [landed_of_port_eq (s := s) (u := s.entered) rfl]
      exact ⟨⟨rfl, rfl⟩, rfl, rfl, rfl, hostBytesKept_of_mem rfl, rfl, rfl, rfl, rfl, rfl, rfl⟩
    · rw [entered_loadMeeting hw]
      exact ⟨⟨rfl, rfl⟩, rfl, rfl, rfl, hostBytesKept_of_mem rfl, rfl, rfl, rfl, rfl, rfl, rfl⟩
  · have hover := startingOver_eq_false hnot
    exact congrArg Host.Outcome.next (if_neg (by simp [hover]))

end Sys2Proof.Machine
end

section
/-! PROOFS. O2, O60: the part after power-on. -/

namespace Sys2Proof.Machine

open Sys2Proof.Safety

/-! ### The lines, the cards and the words of power-on (R15, R28, R130) -/

@[simp] theorem powerOn_line (seated : Byte) (n : LineNo) : (State.powerOn seated).line n = .powerOn := by
  simp [State.powerOn, State.line]

@[simp] theorem powerOn_stateOf (seated : Byte) (n : LineNo) :
    (State.powerOn seated).stateOf n = .outOfService := by
  unfold State.stateOf
  rw [powerOn_line]
  rfl

theorem powerOn_slot (seated : Byte) (c : CardNo) :
    (State.powerOn seated).slots[c] = CardSlot.powerOn (seated.getLsbD c.val) := by
  simp [State.powerOn]

theorem powerOn_cardPresent (seated : Byte) (n : LineNo) : (State.powerOn seated).cardPresent n = true := by
  unfold State.cardPresent
  rw [powerOn_slot]
  rfl

theorem powerOn_words (seated : Byte) (n : LineNo) :
    (State.powerOn seated).sent.filter (fun x => decide (x.line = n)) =
      [{ line := n, setting := .released }] := by
  have h := filter_allLines (words := fun m => [{ line := m, setting := .released }]) (by simp) n
  rwa [← List.map_eq_flatMap] at h

theorem powerOn_attentionBit (seated : Byte) (n : LineNo) : (State.powerOn seated).attentionBit n = false := by
  unfold State.attentionBit
  rw [powerOn_line]
  rfl

theorem powerOn_attentionCount (seated : Byte) : (State.powerOn seated).attentionCount = 0 :=
  List.countP_eq_zero.2 fun n _ => by simp [powerOn_attentionBit]

/-! ### The parameters of an all-zero block (R15, R21, R90) -/

/-- A block of zeros loads as the working parameters of power-on. -/
theorem loadedParams_of_mem_nil {s : State} (h : s.port.mem = []) : s.loadedParams = .fromZero := by
  have hbyte (off : Nat) : s.hostByte off = 0 := by
    unfold State.hostByte
    rw [h]
    rfl
  have hword (off : Nat) : s.hostWord off = 0 := by
    unfold State.hostWord
    rw [hbyte, hbyte]
    rfl
  have hprofile (p : Fin 8) : (s.rawProfile p).adjusted = .fromZero := by
    simp only [State.rawProfile, hword]
    rfl
  have hmask (c : Fin 16) : (s.rawCode c).compile = .fromZero := by
    simp only [State.rawCode, hbyte]
    decide
  simp only [State.loadedParams, hprofile, hmask, State.rawGeneral, hbyte, hword]
  rfl

/-! ### The window after power-on (R2, R4, R6) -/

theorem highByte_zero : highByte 0 = 0 := by decide

theorem byteAt_zero (i : Nat) : byteAt 0 i = 0 := by
  simp [byteAt]

theorem powerOn_attentionByte (seated : Byte) (i : Fin 8) : (State.powerOn seated).attentionByte i = 0 := by
  unfold State.attentionByte
  simp only [powerOn_attentionBit]
  rfl

theorem dite_byte_zero {c : Prop} [Decidable c] {x : c → Byte} {y : ¬c → Byte} (hx : ∀ h, x h = 0)
    (hy : ∀ h, y h = 0) : (if h : c then x h else y h) = 0 := by
  split
  · exact hx _
  · exact hy _

theorem ite_byte_zero {c : Prop} [Decidable c] {x y : Byte} (hx : x = 0) (hy : y = 0) :
    (if c then x else y) = 0 := dite_byte_zero (fun _ => hx) fun _ => hy

/-- R15: every field of the shelf header reads 0, one branch for each. -/
theorem powerOn_headerByte (seated : Byte) (off : Nat) : (State.powerOn seated).headerByte off = 0 := by
  have hload (i : Nat) (hi : i < 12) : byteAt ((State.powerOn seated).sched.loads[i]) (off % 2) = 0 := by
    simp [State.powerOn, byteAt_zero]
  have hcount : BitVec.ofNat 8 (State.powerOn seated).attentionCount = 0 := by
    rw [powerOn_attentionCount]
    rfl
  exact ite_byte_zero rfl <| ite_byte_zero rfl <| ite_byte_zero rfl <| ite_byte_zero rfl <|
    dite_byte_zero (fun _ => hload _ _) fun _ =>
    ite_byte_zero rfl <| ite_byte_zero rfl <| ite_byte_zero highByte_zero <|
    dite_byte_zero (fun _ => powerOn_attentionByte seated _) fun _ =>
    ite_byte_zero hcount <| ite_byte_zero rfl <| ite_byte_zero rfl <| ite_byte_zero (byteAt_zero _) rfl

theorem ReportEntry.zero_byte (i : Nat) : ReportEntry.zero.byte i = 0 := by
  unfold ReportEntry.byte
  split <;> rfl

theorem powerOn_lineFlags (seated : Byte) (n : LineNo) : (State.powerOn seated).lineFlags n = 0 := by
  unfold State.lineFlags
  rw [powerOn_line, powerOn_cardPresent]
  rfl

theorem powerOn_recordByte (seated : Byte) (n : LineNo) (r : Nat) :
    (State.powerOn seated).recordByte n r = 0 := by
  have hentry (i : Nat) (hi : i < 8) : Line.powerOn.rep.entries[i] = .zero := by
    simp [Line.powerOn]
  unfold State.recordByte
  simp only [powerOn_line, powerOn_lineFlags, hentry, ReportEntry.zero_byte]
  split
  · rfl
  · split <;> rfl

theorem powerOn_registerByte (seated : Byte) (off : Nat) : (State.powerOn seated).registerByte off = 0 := by
  have hattention : (State.powerOn seated).attentionWord = 0 := by
    unfold State.attentionWord
    rw [powerOn_attentionCount]
    rfl
  have hcontrol : (State.powerOn seated).controlWord = 0 := rfl
  have hstatus : (State.powerOn seated).statusWord = 0 := rfl
  have htime : (State.powerOn seated).time16 = 0 := rfl
  have hlow : lowByte 0 = 0 := rfl
  unfold State.registerByte
  simp only [hattention, hcontrol, hstatus, htime, hlow, highByte_zero, ite_self]

theorem powerOn_readByte (seated : Byte) (off : Nat) : (State.powerOn seated).readByte off = 0 := by
  rcases window_cases off with h | h | ⟨h, ho⟩ | h
  · rw [State.readByte_header _ h, powerOn_headerByte]
  · rw [State.readByte_hostOwned _ h]
    rfl
  · rw [State.readByte_record _ h ho, powerOn_recordByte]
  · rw [State.readByte_register _ h, powerOn_registerByte]

/-! ### The invariants at power-on -/

theorem powerOn_ringLists (seated : Byte) : RingListsConsistent (State.powerOn seated) := by
  refine ⟨fun k => ?_, fun k => ?_, ⟨fun n => ?_, fun n => ?_, ?_, ?_⟩, fun _ => ⟨rfl, rfl, fun n => ?_⟩,
    fun _ => rfl⟩
  · simp [State.powerOn]
  · simp [State.powerOn]
  · rw [powerOn_stateOf]
    simp [State.powerOn]
  · rw [powerOn_stateOf]
    simp [State.powerOn]
  · simp [State.powerOn]
  · simp [State.powerOn]
  · rw [powerOn_stateOf]
    decide

theorem powerOn_relays (seated : Byte) : RelaysConsistent (State.powerOn seated) := by
  refine ⟨fun n => ?_, fun _ => ⟨rfl, fun n => ?_⟩, fun n => ?_, fun n => ?_, fun n => ?_, fun n => ?_,
    fun _ n => .inr (powerOn_stateOf seated n)⟩
  all_goals
    simp only [powerOn_line, powerOn_stateOf]
    decide

theorem powerOn_dialing (seated : Byte) : DialingConsistent (State.powerOn seated) := by
  refine ⟨fun n => ?_, fun n => ?_, fun n => ?_⟩
  all_goals
    simp only [powerOn_line, powerOn_stateOf]
    decide

/-- Settles O60: reset is power-on with the inputs of log 2. -/
theorem resetMeetsEveryInvariant : Obligations.ResetMeetsEveryInvariant := by
  have h (seated : Byte) : RingListsConsistent (State.powerOn seated) ∧
      RelaysConsistent (State.powerOn seated) ∧ DialingConsistent (State.powerOn seated) ∧
      ShelfConsistent (State.powerOn seated) ∧ ValuesInRange (State.powerOn seated) :=
    ⟨powerOn_ringLists seated, powerOn_relays seated, powerOn_dialing seated,
      powerOn_shelfConsistent seated, powerOn_ranges seated⟩
  exact ⟨h, h Config.seatedAtReset⟩

/-! ### The command (R15) -/

/-- The waiting commands show in no byte of the window (R1). -/
theorem readByte_of_pending (s : State) (q : List Instr) (off : Nat) :
    State.readByte { s with pending := q } off = s.readByte off := by
  rcases window_cases off with h | h | ⟨h, ho⟩ | h
  · rw [State.readByte_header _ h, State.readByte_header _ h]
    rfl
  · rw [State.readByte_hostOwned _ h, State.readByte_hostOwned _ h]
    rfl
  · rw [State.readByte_record _ h ho, State.readByte_record _ h ho, recordByte_congr (s := s)] <;> rfl
  · rw [State.readByte_register _ h, State.readByte_register _ h]
    exact registerByte_congr rfl (fun _ => rfl) rfl rfl rfl

/-- Settles O2: POWER_ON leaves the state of `State.powerOn` but for the waiting commands, and the block then loads
by `loadedParams_of_mem_nil`. -/
theorem powerOnResetsThePart : Obligations.PowerOnResetsThePart := by
  intro seated s
  refine ⟨_, rfl, fun off => (readByte_of_pending _ _ off).trans (powerOn_readByte seated off),
    powerOn_attentionCount seated, rfl, rfl, ?_,
    powerOn_line seated, rfl, rfl, rfl, rfl, rfl, powerOn_words seated, powerOn_slot seated⟩
  rw [loadedParams_of_mem_nil rfl]
  rfl

end Sys2Proof.Machine
end

section
/-! PROOFS. O45, O46, O47: the card slots, a card lost and a card back. -/

namespace Sys2Proof.Machine

open Sys2Proof.Safety

/-! ### A card slot (R27) -/

/-- R27: a change of level leaves a deadline where the input differs from the presence state, and none where it
agrees. -/
theorem CardSlot.changed_eq (k : CardSlot) (b : Bool) (now : Nat) :
    k.changed b now =
      if b = k.seated then k
      else if k.presence = .present then
        { k with seated := b, deadline := if b then none else some (k.deadline.getD (now + 100)) }
      else
        { k with seated := b, deadline := if b then some (k.deadline.getD (now + 500)) else none } := by
  obtain ⟨seated, presence, deadline⟩ := k
  by_cases hb : b = seated
  · simp [CardSlot.changed, hb]
  · have hb' : seated ≠ b := fun h => hb h.symm
    cases presence <;> cases deadline <;> simp [CardSlot.changed, hb, hb']

theorem slotDue_iff {s : State} {c : CardNo} {p : Presence} :
    s.slotDue c p = true ↔
      s.slots[c].presence = p ∧ ∃ e, s.slots[c].deadline = some e ∧ e ≤ s.shelfTime := by
  simp only [State.slotDue, Bool.and_eq_true, decide_eq_true_eq, Option.any_eq_true]

theorem exec_cardLost_of_due {s : State} {c : CardNo} (h : s.slotDue c .present = true) :
    exec (.cardLost c) s = .next (s.loseCard c) :=
  congrArg Host.Outcome.next (if_pos h)

theorem exec_cardBack_of_due {s : State} {c : CardNo} (h : s.slotDue c .absent = true) :
    exec (.cardBack c) s = .next (s.returnCard c) :=
  congrArg Host.Outcome.next (if_pos h)

/-- R27: a slot whose deadline stands clear or ahead is due in neither presence state. -/
theorem not_slotDue {s : State} {c : CardNo} (p : Presence)
    (h : s.slots[c].deadline = none ∨ ∀ e, s.slots[c].deadline = some e → s.shelfTime < e) :
    ¬s.slotDue c p = true := by
  rw [slotDue_iff]
  rintro ⟨-, e, he, hle⟩
  rcases h with h | h
  · rw [h] at he
    cases he
  · exact absurd (h e he) (not_lt.2 hle)

theorem loseCard_slots (s : State) (c : CardNo) : (s.loseCard c).slots =
    s.slots.set c { s.slots[c] with presence := .absent, deadline := none } := by
  simp [State.loseCard, State.updSlot]

theorem returnCard_slots (s : State) (c : CardNo) : (s.returnCard c).slots =
    s.slots.set c { s.slots[c] with presence := .present, deadline := none } := by
  simp [State.returnCard, State.updSlot]

/-- Settles O45: a change is `CardSlot.changed_eq`, and the two expiries act exactly where `slotDue` holds. -/
theorem presenceFollowsInputs : Obligations.PresenceFollowsInputs := by
  intro c s
  refine ⟨fun b => ?_, fun e he hle => ⟨fun hp => ?_, fun hp => ?_⟩, fun h => ⟨?_, ?_⟩⟩
  · rw [← CardSlot.changed_eq]
    rfl
  · exact ⟨_, exec_cardLost_of_due (slotDue_iff.2 ⟨hp, e, he, hle⟩), loseCard_slots s c⟩
  · exact ⟨_, exec_cardBack_of_due (slotDue_iff.2 ⟨hp, e, he, hle⟩), returnCard_slots s c⟩
  · exact congrArg Host.Outcome.next (if_neg (not_slotDue .present h))
  · exact congrArg Host.Outcome.next (if_neg (not_slotDue .absent h))

/-! ### A card lost (R29 to R31) -/

/-- R29, R31: a line of the lost card goes out of service and gets its reports. -/
theorem Line.cardLost_eq_reported (s : State) (l : Line) :
    l.cardLost s.control.params s.shelfTime =
      reported s
        (if l.sup.state = .testing then reported s (outLine l) (.testResult .abandoned 0) else outLine l)
        .cardLost := by
  unfold Line.cardLost
  split <;> rfl

theorem loseCard_line (s : State) (c : CardNo) (n : LineNo) : (s.loseCard c).line n =
    if cardOf n = c then (s.line n).cardLost s.control.params s.shelfTime else s.line n := by
  simp [State.loseCard]

theorem loseCard_cardPresent (s : State) (c : CardNo) (n : LineNo) :
    (s.loseCard c).cardPresent n = if cardOf n = c then false else s.cardPresent n := by
  have hslots := State.cardPresent_congr (t := s.loseCard c)
    (s := s.updSlot c fun k => { k with presence := .absent, deadline := none }) (loseCard_slots s c)
  simp [hslots, updSlot_cardPresent]

/-- R30, R94: the bookings of the card's lines leave, with their loads. -/
theorem loseCard_bookings (s : State) (c : CardNo) : (s.loseCard c).sched.bookings =
    s.sched.bookings.filter fun b => decide (cardOf b.line ≠ c) := by
  simp [State.loseCard, State.dropBookings, State.dropWaits]

/-- R30, R104: the wait entries of the card's lines leave. -/
theorem loseCard_waits (s : State) (c : CardNo) : (s.loseCard c).sched.waits =
    s.sched.waits.filter fun e => decide (cardOf e.line ≠ c) := by
  simp [State.loseCard, State.dropBookings, State.dropWaits]

theorem loseCard_loadsMatch {s : State} (c : CardNo) (h : LoadsMatch s) : LoadsMatch (s.loseCard c) := by
  intro k
  rw [State.loseCard, State.mapLines_sched]
  exact dropBookings_loads (s := s.updSlot c fun k => { k with presence := .absent, deadline := none })
    (fun n => decide (cardOf n = c)) k (h k)

/-- R130: no word goes to an absent card, and the lines of the others keep their settings. -/
theorem mapLines_sent_of_absent {s : State} {g : LineNo → Line → Line}
    (h : ∀ n, s.cardPresent n = false ∨ g n (s.line n) = s.line n) : (s.mapLines g).sent = s.sent := by
  have hwords (n : LineNo) : relayWords (s.cardPresent n) n (s.line n) (g n (s.line n)) = [] := by
    rcases h n with hn | hn <;> simp [relayWords, hn]
  simp [State.mapLines, hwords]

theorem loseCard_sent (s : State) (c : CardNo) : (s.loseCard c).sent = s.sent := by
  have hwords := mapLines_sent_of_absent
    (s := ((s.updSlot c fun k => { k with presence := .absent, deadline := none }).dropBookings
      fun n => decide (cardOf n = c)).dropWaits fun n => decide (cardOf n = c))
    (g := fun n l => if cardOf n = c then l.cardLost s.control.params s.shelfTime else l) fun n => by
      by_cases hn : cardOf n = c
      · have hpresent := updSlot_cardPresent s c (fun k => { k with presence := .absent, deadline := none }) n
        rw [if_pos hn] at hpresent
        exact .inl hpresent
      · exact .inr (if_neg hn)
  exact hwords

/-- R29 to R31: what a card lost changes. -/
theorem loseCard_eq (s : State) (c : CardNo) : s.loseCard c = { s with
    slots := (s.loseCard c).slots, lines := (s.loseCard c).lines
    sched := { s.sched with
      bookings := (s.loseCard c).sched.bookings, waits := (s.loseCard c).sched.waits
      loads := (s.loseCard c).sched.loads } } := by
  have hsent := loseCard_sent s c
  conv_rhs => rw [← hsent]
  simp only [State.loseCard, State.mapLines, State.dropWaits, State.dropBookings, State.updSlot]

/-- Settles O46: the card lost is `loseCard_eq`, and each line of it `Line.cardLost_eq_reported`. -/
theorem cardLostEndsItsLines : Obligations.CardLostEndsItsLines := by
  intro c s hp e he hle
  refine ⟨_, exec_cardLost_of_due (slotDue_iff.2 ⟨hp, e, he, hle⟩), fun n hn => ⟨?_, ?_⟩,
    fun n hn => ⟨?_, ?_⟩, loseCard_bookings s c, loseCard_waits s c, loseCard_loadsMatch c, loseCard_eq s c⟩
  · rw [loseCard_cardPresent, if_pos hn]
  · rw [loseCard_line, if_pos hn]
    exact Line.cardLost_eq_reported s (s.line n)
  · rw [loseCard_line, if_neg hn]
  · rw [loseCard_cardPresent, if_neg hn]

/-! ### A card back (R33) -/

theorem returnCard_cardPresent (s : State) (c : CardNo) (n : LineNo) :
    (s.returnCard c).cardPresent n = if cardOf n = c then true else s.cardPresent n := by
  have hslots := State.cardPresent_congr (t := s.returnCard c)
    (s := s.updSlot c fun k => { k with presence := .present, deadline := none }) (returnCard_slots s c)
  simp [hslots, updSlot_cardPresent]

/-- R33: exactly one released word for each line of the card. -/
theorem filter_releasedWords (c : CardNo) (n : LineNo) :
    (releasedWords c).filter (fun x => decide (x.line = n)) =
      if cardOf n = c then [{ line := n, setting := .released }] else [] := by
  have hwords (ns : List LineNo) :
      (ns.filter fun m => decide (cardOf m = c)).map
          (fun m => ({ line := m, setting := .released } : RelayWord)) =
        ns.flatMap fun m => if cardOf m = c then [{ line := m, setting := .released }] else [] := by
    induction ns with
    | nil => rfl
    | cons m ns ih => by_cases hm : cardOf m = c <;> simp [hm, ih]
  have hline (m : LineNo) : ∀ x ∈ (if cardOf m = c then [({ line := m, setting := .released } : RelayWord)]
      else []), x.line = m := by
    by_cases hm : cardOf m = c <;> simp [hm]
  rw [releasedWords, ← List.filter_reverse, hwords, filter_allLines hline]

/-- R33, R130: the released words are all that a card back sends, since its reports change no setting. -/
theorem returnCard_sent (s : State) (c : CardNo) : (s.returnCard c).sent = releasedWords c ++ s.sent := by
  have hquiet := mapLines_sent_of_settings
    (s := s.updSlot c fun k => { k with presence := .present, deadline := none })
    (g := fun n l =>
      if cardOf n = c then l.append s.control.params s.shelfTime .cardBack .outOfService else l) fun n => by
      split <;> rfl
  exact congrArg (releasedWords c ++ ·) hquiet

/-- R33: what a card back changes. -/
theorem returnCard_eq (s : State) (c : CardNo) : s.returnCard c = { s with
    slots := (s.returnCard c).slots, lines := (s.returnCard c).lines, sent := (s.returnCard c).sent } := by
  simp only [State.returnCard, State.mapLines, State.updSlot]

/-- Settles O47: the card back is `returnCard_eq`; the report's state after is OUT OF SERVICE, that of a line
of an absent card. -/
theorem cardBackReportsAndReleases : Obligations.CardBackReportsAndReleases := by
  intro c s hp hout e he hle
  refine ⟨_, exec_cardBack_of_due (slotDue_iff.2 ⟨hp, e, he, hle⟩), fun n hn => ⟨?_, ?_⟩,
    fun n hn => ⟨?_, ?_⟩, ⟨releasedWords c, returnCard_sent s c, filter_releasedWords c⟩, returnCard_eq s c⟩
  · rw [returnCard_cardPresent, if_pos hn]
  · have habsent : s.cardPresent n = false := by
      subst hn
      rw [State.cardPresent, hp]
      rfl
    have hstate : (s.line n).sup.state = .outOfService := hout n habsent
    rw [returnCard_line, if_pos hn, ← hstate]
    rfl
  · rw [returnCard_line, if_neg hn]
  · rw [returnCard_cardPresent, if_neg hn]

end Sys2Proof.Machine
end

section
/-! PROOFS. The sample index: every operation of a line but the delivery of a sample leaves it (R25). -/

namespace Sys2Proof.Machine

open Sys2Proof.Safety

/-! ### The sample index (R25) -/

/-- From `s` to `t` line n keeps its sample index. -/
def IndexKept (n : LineNo) (s t : State) : Prop := (t.line n).sampleIndex = (s.line n).sampleIndex

theorem IndexKept.refl (n : LineNo) (s : State) : IndexKept n s s := rfl

theorem IndexKept.trans {n : LineNo} {s t u : State} (h : IndexKept n s t) (h' : IndexKept n t u) :
    IndexKept n s u := Eq.trans h' h

theorem indexKept_updLine {n : LineNo} {s : State} {f : Line → Line}
    (h : (f (s.line n)).sampleIndex = (s.line n).sampleIndex) : IndexKept n s (s.updLine n f) := by
  rwa [IndexKept, State.updLine_line_same]

theorem IndexKept.report {n : LineNo} {s t : State} (h : IndexKept n s t) (r : Report) :
    IndexKept n s (t.report n r) :=
  h.trans (indexKept_updLine rfl)

theorem indexKept_clearLine (s : State) (n : LineNo) : IndexKept n s (s.clearLine n) :=
  .report (indexKept_updLine rfl) _

theorem indexKept_itemClear (s : State) (n : LineNo) : IndexKept n s (s.itemClear n) := by
  unfold State.itemClear
  split
  case h_2 => exact .trans (indexKept_updLine rfl) (indexKept_clearLine _ n)
  case h_1 | h_3 | h_4 | h_5 | h_6 => exact indexKept_clearLine s n
  all_goals exact .refl n s

theorem indexKept_pulseDialing (s : State) (n : LineNo) : IndexKept n s (s.pulseDialing n) := by
  unfold State.pulseDialing
  dsimp only
  split
  · exact .refl n s
  · split
    · exact .report (indexKept_updLine rfl) _
    · exact indexKept_updLine rfl

theorem indexKept_gapDialing (s : State) (n : LineNo) : IndexKept n s (s.gapDialing n) := by
  unfold State.gapDialing
  split
  · exact .refl n s
  · exact .report (indexKept_updLine rfl) _

theorem indexKept_itemClose (s : State) (n : LineNo) (finished : Option (BreakClass × Nat)) :
    IndexKept n s (s.itemClose n finished) := by
  unfold State.itemClose
  split
  · exact indexKept_updLine rfl
  · exact indexKept_updLine rfl
  · exact indexKept_pulseDialing s n
  · exact indexKept_gapDialing s n
  · exact .report (indexKept_updLine rfl) _
  · exact (IndexKept.refl n s).report _
  · exact indexKept_itemClear s n
  · exact .refl n s

theorem indexKept_itemOpen (s : State) (n : LineNo) : IndexKept n s (s.itemOpen n) := by
  unfold State.itemOpen
  split
  · exact indexKept_updLine rfl
  · exact .refl n s

theorem Line.noticeReleased_sampleIndex (l : Line) (now : Instant) (g : Nat) :
    (l.noticeReleased now g).sampleIndex = l.sampleIndex := by
  obtain ⟨r, h⟩ := l.noticeReleased_eq now g
  rw [h]

theorem indexKept_itemTrip (s : State) (n : LineNo) (now : Instant) : IndexKept n s (s.itemTrip n now) := by
  unfold State.itemTrip
  split
  · refine .report (.trans (t := s.dropBookings (· = n)) rfl (indexKept_updLine ?_)) _
    dsimp only
    split
    · exact Line.noticeReleased_sampleIndex _ now _
    · rfl
  · exact .refl n s

theorem indexKept_takeEvent (s : State) (n : LineNo) (now : Instant) (e : Option LineEvent) :
    IndexKept n s (s.takeEvent n now e) := by
  match e with
  | none => exact .refl n s
  | some .opened => exact indexKept_itemOpen s n
  | some (.closed finished) => exact indexKept_itemClose s n finished
  | some .trip => exact indexKept_itemTrip s n now
  | some .learned => exact indexKept_updLine rfl

theorem indexKept_takeClear (s : State) (n : LineNo) (clear : Option Nat) :
    IndexKept n s (s.takeClear n clear) := by
  match clear with
  | none => exact .refl n s
  | some _ => exact indexKept_itemClear s n

theorem indexKept_endDigit (s : State) (n : LineNo) : IndexKept n s (s.endDigit n) := by
  unfold State.endDigit
  dsimp only
  split
  · exact indexKept_updLine rfl
  · split
    · exact .refl n s
    · exact .report (indexKept_updLine rfl) _

theorem indexKept_answerNow (s : State) (n : LineNo) (how : AnswerKind) (frames : Nat) :
    IndexKept n s (s.answerNow n how frames) :=
  .report (indexKept_updLine rfl) _

theorem indexKept_makeRinging (s : State) (n : LineNo) (ms : Nat) : IndexKept n s (s.makeRinging n ms) := by
  have hanswer (how frames) : IndexKept n s ((s.dropBookings (· = n)).answerNow n how frames) :=
    indexKept_answerNow (s.dropBookings (· = n)) n how frames
  unfold State.makeRinging
  split
  · exact .refl n s
  · split
    · exact hanswer _ _
    · split
      · exact hanswer _ _
      · exact .refl n s

theorem indexKept_itemMake (s : State) (n : LineNo) (ms : Nat) (fresh : Bool) :
    IndexKept n s (s.itemMake n ms fresh) := by
  unfold State.itemMake
  split
  case h_1 =>
    split
    · exact .refl n s
    · exact indexKept_updLine rfl
  case h_2 =>
    split
    · exact .report (indexKept_updLine rfl) _
    · exact .refl n s
  case h_3 =>
    split
    · exact indexKept_endDigit s n
    · exact .refl n s
  case h_4 => exact indexKept_makeRinging s n ms
  case h_5 =>
    unfold State.makeWaiting
    split
    · exact indexKept_answerNow (s.dropWaits (· = n)) n _ _
    · exact .refl n s
  all_goals exact .refl n s

theorem indexKept_takeElapsed (s : State) (n : LineNo) (fresh : Bool) (e : Option Elapsed) :
    IndexKept n s (s.takeElapsed n fresh e) := by
  match e with
  | none => exact .refl n s
  | some (.breakFor _) => exact .refl n s
  | some (.makeFor ms) => exact indexKept_itemMake s n ms fresh

theorem indexKept_judgeDeadline (s : State) (n : LineNo) : IndexKept n s (s.judgeDeadline n) := by
  unfold State.judgeDeadline State.expire
  split
  · split
    case h_5 => exact indexKept_updLine rfl
    all_goals exact .report (indexKept_updLine rfl) _
  · exact .refl n s

theorem indexKept_endGuard (s : State) (n : LineNo) (target : ExitTarget) :
    IndexKept n s (s.endGuard n target) := by
  have hto : IndexKept n s (s.updLine n fun l => l.guardTo .ringWait) := indexKept_updLine rfl
  unfold State.endGuard
  split
  · exact indexKept_updLine rfl
  · exact indexKept_updLine rfl
  · exact IndexKept.report (t := State.joinEvicted _ _ _) hto _
  · exact IndexKept.report (t := State.joinTail _ _) hto _

theorem indexKept_ignoredSample (s : State) (n : LineNo) (now : Instant) (sample : Nat) :
    IndexKept n s (s.ignoredSample n now sample) := by
  unfold State.ignoredSample
  split
  · exact indexKept_endGuard s n _
  · split
    · split
      · exact .report (indexKept_updLine rfl) _
      · exact indexKept_updLine rfl
    · exact .refl n s

theorem indexKept_afterItems (s : State) (n : LineNo) (sample : Nat) :
    IndexKept n s (s.afterItems n sample) := by
  have hitems : IndexKept n s (s.afterElapsed n sample) :=
    (((indexKept_updLine rfl).trans (indexKept_takeEvent _ n _ _)).trans
      (indexKept_takeClear _ n _)).trans (indexKept_takeElapsed _ n _ _)
  unfold State.afterItems
  split
  · exact indexKept_ignoredSample s n _ sample
  · exact .refl n s
  all_goals exact hitems

theorem indexKept_afterStage4 (s : State) (n : LineNo) (sample : Nat) :
    IndexKept n s (s.afterStage4 n sample) := by
  have h3 : IndexKept n s (s.afterStage3 n sample) :=
    (indexKept_afterItems s n sample).trans (indexKept_judgeDeadline _ n)
  unfold State.afterStage4 State.updateBaseline
  split
  · split
    · exact h3.trans (indexKept_updLine rfl)
    · exact h3
  · exact h3

theorem indexKept_checkLeakage (s : State) (n : LineNo) : IndexKept n s (s.checkLeakage n) := by
  unfold State.checkLeakage
  dsimp only
  split
  · split
    · exact .report (indexKept_updLine rfl) _
    · exact .refl n s
  · split
    · exact .report (indexKept_updLine rfl) _
    · exact .refl n s

/-- R25: of a delivered sample the delivery alone moves the index. -/
theorem indexKept_stages (s : State) (n : LineNo) (sample : Nat) : IndexKept n s (s.stages n sample) := by
  unfold State.stages
  split
  · exact (indexKept_afterStage4 s n sample).trans (indexKept_checkLeakage _ n)
  · exact indexKept_afterStage4 s n sample

@[simp] theorem delivered_line (s : State) (n : LineNo) :
    (s.delivered n).line n = { s.line n with sampleIndex := (s.line n).sampleIndex + 1 } := by
  simp [State.delivered]

theorem arrival_of_sampled {s : State} {n : LineNo} (h : Sampled s n) (a : Option Byte) :
    s.arrival n a = (s.delivered n).stages n (sampleOf a) :=
  if_pos (delivers_iff.2 h)

theorem arrival_sampleIndex {s : State} {n : LineNo} (h : Sampled s n) (a : Option Byte) :
    ((s.arrival n a).line n).sampleIndex = (s.line n).sampleIndex + 1 := by
  rw [arrival_of_sampled h, indexKept_stages, delivered_line]

end Sys2Proof.Machine
end

section
/-! PROOFS. What stage 2 makes of a sample that brings nothing about: the classifier that it leaves, and a
hand-on of which the line's state acts on nothing (`quietSample_of_uneventful`). -/

namespace Sys2Proof.Machine

open Sys2Proof.Safety

/-! ### The modes of a sample (R39) -/

/-- R39, R41: the baseline is updated in IDLE alone. -/
theorem Line.idle_of_mode {l : Line} {now : Instant} (h : l.mode now = .watchUpdate) :
    l.sup.state = .idle := by
  unfold Line.mode at h
  cases hs : l.sup.state <;> rw [hs] at h <;> dsimp only at h
  case ringing =>
    split at h
    · cases h
    · split at h <;> cases h
  case outOfService | learning | ringGuard | testing => cases h
  all_goals split at h <;> cases h

/-- R39: the mode of a sample whose hook is judged, or that falls in the ring-transient window. -/
def Watched (s : State) (n : LineNo) : Prop := s.modeOf n = .transient ∨ Hooked s n

theorem Watched.ne_ignore {s : State} {n : LineNo} (h : Watched s n) : s.modeOf n ≠ .ignore := by
  rcases h with h | h | h <;> simp [h]

/-- R46: only in the ignore mode does a guard end or a test measure. -/
theorem state_of_not_ignored {s : State} {n : LineNo} (h : s.modeOf n ≠ .ignore) :
    s.stateOf n ≠ .ringGuard ∧ s.stateOf n ≠ .testing := by
  constructor <;> exact fun hs => h (by simp only [State.modeOf, Line.mode, show (s.line n).sup.state = _ from hs])

/-! ### Stage 2 with hook decisions (R38, R45, R52, R56, R57) -/

theorem rawAfter_eq (s : State) (n : LineNo) (v : Nat) :
    (s.line n).cls.rawAfter (s.profileOf n) v =
      if closeAt s n ≤ v then .closed else if v ≤ openAt s n then .opened else (s.line n).cls.raw := rfl

theorem rawAfter_of_showsClosed {s : State} {n : LineNo} {v : Nat} (h : ShowsClosed s n v) :
    (s.line n).cls.rawAfter (s.profileOf n) v = .closed := by
  rw [rawAfter_eq]
  split
  · rfl
  · next hlow =>
    obtain ⟨hopen, hraw⟩ := h.resolve_left hlow
    rw [if_neg (not_le.2 hopen), hraw]

theorem rawAfter_of_not_showsClosed {s : State} {n : LineNo} {v : Nat} (h : ¬ShowsClosed s n v) :
    (s.line n).cls.rawAfter (s.profileOf n) v = .opened := by
  rw [rawAfter_eq, if_neg fun hc => h (.inl hc)]
  split
  · rfl
  · next hopen =>
    cases hraw : (s.line n).cls.raw with
    | opened => rfl
    | closed => exact absurd (.inr ⟨not_le.1 hopen, hraw⟩) h

section

variable {c : Classifier} {p : Profile} {v : Nat} {k : BitVec 32}

/-- R45: a sample that agrees with the confirmed state ends the run. -/
theorem Classifier.hookDecision_of_agrees (h : c.rawAfter p v = c.confirmed) :
    c.hookDecision p v k = ({ c with raw := c.confirmed, runCount := 0 }, none) := by
  simp [Classifier.hookDecision, Classifier.advanceRun, h]

/-- R45: the run that a differing sample starts or continues. -/
def Classifier.running (c : Classifier) (h : Hook) (k : BitVec 32) : Classifier :=
  { c with raw := h, runStart := runStartAt c k, runCount := c.runCount + 1 }

theorem Classifier.advanceRun_of_differs {h : Hook} (hc : h ≠ c.confirmed) :
    c.advanceRun h k = c.running h k :=
  if_neg hc

/-- R45: a run shorter than D confirms nothing. -/
theorem Classifier.hookDecision_of_short {h : Hook} (hraw : c.rawAfter p v = h) (hc : h ≠ c.confirmed)
    (hd : c.runCount + 1 < p.d) : c.hookDecision p v k = (c.running h k, none) := by
  unfold Classifier.hookDecision
  dsimp only
  rw [hraw, Classifier.advanceRun_of_differs hc, if_neg fun hrun => absurd hrun.2 (not_le.2 hd)]

/-- R45: a run of opens that reaches D confirms the open. -/
theorem Classifier.hookDecision_of_opens (hraw : c.rawAfter p v = .opened) (hc : c.confirmed = .closed)
    (hd : p.d ≤ c.runCount + 1) :
    c.hookDecision p v k = ((c.running .opened k).confirmOpen, some .opened) := by
  have hne : Hook.opened ≠ c.confirmed := by simp [hc]
  unfold Classifier.hookDecision
  dsimp only
  rw [hraw, Classifier.advanceRun_of_differs hne, if_pos ⟨hne, hd⟩]

/-- R45: a run of closes that reaches D confirms the close. -/
theorem Classifier.hookDecision_of_closes (hraw : c.rawAfter p v = .closed) (hc : c.confirmed = .opened)
    (hd : p.d ≤ c.runCount + 1) : c.hookDecision p v k =
      ((c.running .closed k).confirmClose p, some (.closed ((c.running .closed k).finishedBreak p))) := by
  have hne : Hook.closed ≠ c.confirmed := by simp [hc]
  unfold Classifier.hookDecision
  dsimp only
  rw [hraw, Classifier.advanceRun_of_differs hne, if_pos ⟨hne, hd⟩]

/-- R53 to R59: where the hook decision declares no clear, it is all of stage 2. -/
theorem Classifier.watch_of_no_clear {c' : Classifier} {e : Option LineEvent}
    (h : c.hookDecision p v k = (c', e)) (hclear : clearDeclared p (c'.elapsed k) = none) :
    c.watch p v k = (c', { event := e, clear := none, elapsed := c'.elapsed k }) := by
  simp [Classifier.watch, h, hclear]

/-! ### The class of a break (R56) -/

theorem breakClass_glitch_iff {L : Nat} : breakClass p L = .glitch ↔ L < p.pbMin := by
  unfold breakClass
  split_ifs <;> simp [*]

theorem le_of_breakClass_pulse {L : Nat} (h : breakClass p L = .pulse) : p.pbMin ≤ L ∧ L ≤ p.pbMax := by
  unfold breakClass at h
  split_ifs at h
  omega

theorem le_of_breakClass_gap {L : Nat} (h : breakClass p L = .gap) : p.pbMin ≤ L := by
  unfold breakClass at h
  split_ifs at h
  omega

theorem le_of_breakClass_flash {L : Nat} (h : breakClass p L = .flash) : p.pbMin ≤ L ∧ p.flMin ≤ L := by
  unfold breakClass at h
  split_ifs at h
  omega

theorem lt_of_breakClass_clear {L : Nat} (h : breakClass p L = .clear) : p.flMax < L := by
  unfold breakClass at h
  split_ifs at h
  omega

theorem breakClass_clear_iff (hp : Installed p) {L : Nat} : breakClass p L = .clear ↔ p.flMax < L := by
  obtain ⟨-, -, hpulse, hflash, -⟩ := hp
  refine ⟨lt_of_breakClass_clear, fun h => ?_⟩
  unfold breakClass
  rw [if_neg, if_neg, if_neg, if_neg] <;> omega

end

/-! ### Samples of which the line's state acts on nothing (R68, R72 to R81, R115, R117) -/

/-- Line n with its sample taken and this classifier, before the Supervisor acts. -/
def sampledLine (s : State) (n : LineNo) (c : Classifier) : Line :=
  { s.line n with sampleIndex := (s.line n).sampleIndex + 1, cls := c }

/-- The break of this length as a confirmed close hands it on (R56). -/
def classedBreak (s : State) (n : LineNo) (len : Option Nat) : Option (BreakClass × Nat) :=
  len.map fun L => (breakClass (s.profileOf n) L, L)

/-- Line n's state acts on nothing of what its sample hands on, the classifier being left as `c`; an event,
if there is one, is a confirmed change of the hook. -/
structure Ignored (s : State) (n : LineNo) (c : Classifier) (h : HandOn) : Prop where
  event : h.event = none ∨ (c.confirmed ≠ (s.line n).cls.confirmed ∧
    ((h.event = some .opened ∧ s.stateOf n ≠ .seizing) ∨
      ∃ len, h.event = some (.closed (classedBreak s n len)) ∧ BreakIgnored s n len ∧ s.stateOf n ≠ .idle))
  clear : h.clear = none
  elapsed : ∀ ms, h.elapsed = some (.makeFor ms) → ∃ m0, ms = makeElapsed s n m0 ∧ MakeIgnored s n m0

theorem ignored_nothing (s : State) (n : LineNo) (c : Classifier) : Ignored s n c .nothing :=
  ⟨.inl rfl, rfl, fun _ h => by simp [HandOn.nothing] at h⟩

/-- The next sample of line n, with value v, leaves the line as `l` and hands on nothing that its state acts on. -/
def QuietSample (s : State) (n : LineNo) (v : Nat) (l : Line) : Prop :=
  ∃ c h, (s.delivered n).classified n v = (c, h) ∧ l = sampledLine s n c ∧ Ignored s n c h

@[simp] theorem delivered_profileOf (s : State) (n : LineNo) : (s.delivered n).profileOf n = s.profileOf n := by
  simp [State.profileOf, State.delivered]

@[simp] theorem delivered_modeOf (s : State) (n : LineNo) : (s.delivered n).modeOf n = s.modeOf n := by
  rw [State.modeOf, delivered_line]
  rfl

theorem delivered_classified (s : State) (n : LineNo) (v : Nat) : (s.delivered n).classified n v =
    (s.line n).cls.stage2 (s.modeOf n) (s.profileOf n) v ((s.line n).sampleIndex + 1) := by
  rw [State.classified, delivered_profileOf, delivered_modeOf, delivered_line]

theorem classified_of_hooked {s : State} {n : LineNo} (h : Hooked s n) (v : Nat) :
    (s.delivered n).classified n v =
      (s.line n).cls.watch (s.profileOf n) v ((s.line n).sampleIndex + 1) := by
  rw [delivered_classified]
  rcases h with h | h <;> rw [h] <;> rfl

theorem Classifier.elapsed_of_bothOpened {c : Classifier} (hc : c.confirmed = .opened)
    (hr : c.raw = .opened) (k : BitVec 32) :
    c.elapsed k = c.breakStart.map fun k0 => .breakFor (elapsedAt k0 k) := by
  simp only [Classifier.elapsed, hc, hr]

theorem Classifier.elapsed_of_bothClosed {c : Classifier} (hc : c.confirmed = .closed)
    (hr : c.raw = .closed) (k : BitVec 32) :
    c.elapsed k = c.makeStart.map fun m0 => .makeFor (elapsedAt m0 k) := by
  simp only [Classifier.elapsed, hc, hr]

/-- R53: a sample that differs from the confirmed state has no elapsed time. -/
theorem Classifier.elapsed_of_differs {c : Classifier} (h : c.raw ≠ c.confirmed) (k : BitVec 32) :
    c.elapsed k = none := by
  unfold Classifier.elapsed
  cases hc : c.confirmed <;> cases hr : c.raw <;> simp [hc, hr] at h ⊢

theorem elapsedAt_eq (i k : BitVec 32) : elapsedAt i k = 2 * ((k - i).toNat + 1) := Nat.mul_comm _ _

/-- R39, R47: in the ring-transient window and in OUT OF SERVICE a sample is not judged, and hands on nothing. -/
theorem quietSample_of_unjudged {s : State} {n : LineNo} (v : Nat)
    (h : s.modeOf n = .transient ∨ s.modeOf n = .off) :
    QuietSample s n v { s.line n with sampleIndex := (s.line n).sampleIndex + 1 } := by
  refine ⟨(s.line n).cls, .nothing, ?_, rfl, ignored_nothing s n _⟩
  rw [delivered_classified]
  rcases h with h | h <;> rw [h] <;> rfl

section

variable {s : State} {n : LineNo} {v : Nat} {c : Classifier} {e : Option LineEvent}

/-- A break sample that has not outlasted FLmax declares no clear, and its elapsed time is ignored everywhere
(R54, R72 to R81). -/
theorem quietSample_of_break (hh : Hooked s n)
    (hdec : (s.line n).cls.hookDecision (s.profileOf n) v ((s.line n).sampleIndex + 1) = (c, e))
    (hc : c.confirmed = .opened) (hr : c.raw = .opened)
    (hshort : ∀ k0, c.breakStart = some k0 → breakElapsed s n k0 ≤ (s.profileOf n).flMax)
    (he : e = none ∨ (c.confirmed ≠ (s.line n).cls.confirmed ∧ e = some .opened ∧ s.stateOf n ≠ .seizing)) :
    QuietSample s n v (sampledLine s n c) := by
  have helapsed := Classifier.elapsed_of_bothOpened hc hr ((s.line n).sampleIndex + 1)
  have hclear : clearDeclared (s.profileOf n) (c.elapsed ((s.line n).sampleIndex + 1)) = none := by
    rw [helapsed]
    cases hk : c.breakStart with
    | none => rfl
    | some k0 =>
      have hle := hshort k0 hk
      exact if_neg (by rw [elapsedAt_eq]; exact not_lt.2 hle)
  refine ⟨c, _, (classified_of_hooked hh v).trans (Classifier.watch_of_no_clear hdec hclear), rfl, ?_, rfl,
    fun ms hms => ?_⟩
  · exact he.imp id fun ⟨hne, hopen, hs⟩ => ⟨hne, .inl ⟨hopen, hs⟩⟩
  · rw [helapsed] at hms
    cases hk : c.breakStart <;> simp [hk] at hms

/-- A make sample declares no clear; its elapsed time is ignored where its make start says so (R53, R58). -/
theorem quietSample_of_make (hh : Hooked s n)
    (hdec : (s.line n).cls.hookDecision (s.profileOf n) v ((s.line n).sampleIndex + 1) = (c, e))
    (hc : c.confirmed = .closed) (hr : c.raw = .closed)
    (hmake : ∀ m0, c.makeStart = some m0 → MakeIgnored s n m0)
    (he : e = none ∨ (c.confirmed ≠ (s.line n).cls.confirmed ∧ ∃ len,
      e = some (.closed (classedBreak s n len)) ∧ BreakIgnored s n len ∧ s.stateOf n ≠ .idle)) :
    QuietSample s n v (sampledLine s n c) := by
  have helapsed := Classifier.elapsed_of_bothClosed hc hr ((s.line n).sampleIndex + 1)
  have hclear : clearDeclared (s.profileOf n) (c.elapsed ((s.line n).sampleIndex + 1)) = none := by
    rw [helapsed]
    cases c.makeStart <;> rfl
  refine ⟨c, _, (classified_of_hooked hh v).trans (Classifier.watch_of_no_clear hdec hclear), rfl, ?_, rfl,
    fun ms hms => ?_⟩
  · exact he.imp id fun ⟨hne, hclose⟩ => ⟨hne, .inr hclose⟩
  · rw [helapsed, Option.map_eq_some_iff] at hms
    obtain ⟨m0, hm, hms⟩ := hms
    exact ⟨m0, (Elapsed.makeFor.inj hms).symm.trans (elapsedAt_eq _ _), hmake m0 hm⟩

/-- R45, R53: a steady sample whose make is ignored. -/
theorem quietSample_of_steady (h : Safety.Steady s n v)
    (hmake : (s.line n).cls.confirmed = .closed → ∀ m0, (s.line n).cls.makeStart = some m0 →
      MakeIgnored s n m0) : QuietSample s n v (steadyLine s n) := by
  obtain ⟨-, hh, hshows, hbreak⟩ := h
  cases hc : (s.line n).cls.confirmed with
  | opened =>
    have hraw := rawAfter_of_not_showsClosed (v := v) fun hv => absurd (hshows.1 hv) (by simp [hc])
    exact quietSample_of_break hh (Classifier.hookDecision_of_agrees (hraw.trans hc.symm)) hc hc
      (hbreak hc) (.inl rfl)
  | closed =>
    have hraw := rawAfter_of_showsClosed (hshows.2 hc)
    exact quietSample_of_make hh (Classifier.hookDecision_of_agrees (hraw.trans hc.symm)) hc hc
      (hmake hc) (.inl rfl)

/-- R45: a sample of a run that is shorter than D. -/
theorem quietSample_of_short {hook : Hook} (hh : Hooked s n)
    (hraw : (s.line n).cls.rawAfter (s.profileOf n) v = hook) (hne : hook ≠ (s.line n).cls.confirmed)
    (hd : (s.line n).cls.runCount + 1 < (s.profileOf n).d) :
    QuietSample s n v (sampledLine s n ((s.line n).cls.running hook ((s.line n).sampleIndex + 1))) := by
  have helapsed := Classifier.elapsed_of_differs
    (c := (s.line n).cls.running hook ((s.line n).sampleIndex + 1)) hne ((s.line n).sampleIndex + 1)
  refine ⟨_, _, (classified_of_hooked hh v).trans (Classifier.watch_of_no_clear
    (Classifier.hookDecision_of_short hraw hne hd) (by rw [helapsed]; rfl)), rfl, .inl rfl, rfl, fun ms hms => ?_⟩
  rw [helapsed] at hms
  cases hms

theorem differingLine_eq (s : State) (n : LineNo) : differingLine s n = sampledLine s n
    ((s.line n).cls.running (if (s.line n).cls.confirmed = .opened then .closed else .opened)
      ((s.line n).sampleIndex + 1)) := rfl

/-- R45: a sample that differs from the confirmed state and does not confirm the change. -/
theorem quietSample_of_differing (hh : Hooked s n)
    (hshows : ShowsClosed s n v ↔ (s.line n).cls.confirmed = .opened)
    (hd : (s.line n).cls.runCount + 1 < (s.profileOf n).d) : QuietSample s n v (differingLine s n) := by
  rw [differingLine_eq]
  split
  · next hc =>
    exact quietSample_of_short hh (rawAfter_of_showsClosed (hshows.2 hc)) (by simp [hc]) hd
  · next hc =>
    have hopen : ¬ShowsClosed s n v := fun hv => hc (hshows.1 hv)
    exact quietSample_of_short hh (rawAfter_of_not_showsClosed hopen) (Ne.symm hc) hd

/-- R45, R53: a break sample that has not outlasted FLmax, and confirms no open in SEIZING. -/
theorem quietSample_of_breakAt {k0 : BitVec 32} (h : BreakAt s n v k0)
    (hshort : breakElapsed s n k0 ≤ (s.profileOf n).flMax)
    (hseizing : (s.line n).cls.confirmed = .closed → s.stateOf n ≠ .seizing) :
    QuietSample s n v (openedLine s n k0) := by
  obtain ⟨-, hh, hshows, hcase⟩ := h
  have hraw := rawAfter_of_not_showsClosed hshows
  rcases hcase with ⟨hc, hk⟩ | ⟨hc, hd, hk⟩
  · have hline : openedLine s n k0 = steadyLine s n := by
      simp only [openedLine, steadyLine, hc, hk, if_true]
    rw [hline]
    refine quietSample_of_break hh (Classifier.hookDecision_of_agrees (hraw.trans hc.symm)) hc hc
      (fun k hk' => ?_) (.inl rfl)
    obtain rfl : k0 = k := Option.some.inj (hk.symm.trans hk')
    exact hshort
  · have hline : openedLine s n k0 = sampledLine s n
        (((s.line n).cls.running .opened ((s.line n).sampleIndex + 1)).confirmOpen) := by
      simp only [openedLine, sampledLine, Classifier.running, Classifier.confirmOpen, hc, hk, reduceCtorEq,
        if_false]
    rw [hline]
    refine quietSample_of_break hh (Classifier.hookDecision_of_opens hraw hc hd) rfl rfl
      (fun k hk' => ?_) (.inr ⟨by simp [Classifier.confirmOpen, hc], rfl, hseizing hc⟩)
    obtain rfl : k0 = k := Option.some.inj (hk.symm.trans hk')
    exact hshort

/-- R45, R52, R55 to R57: what a confirmed close does, by the class of the break that it finishes. -/
theorem Classifier.confirmClose_eq (c : Classifier) (p : Profile) : c.confirmClose p = { c with
    confirmed := .closed, runCount := 0
    makeStart := if (c.finishedBreak p).map Prod.fst = some .glitch
      then c.bridge.orElse fun _ => c.runStart else c.runStart
    breakStart := if (c.finishedBreak p).map Prod.fst = some .clear then none else c.breakStart
    bridge := if (c.finishedBreak p).map Prod.fst = some .clear then none else c.bridge } := by
  unfold Classifier.confirmClose
  match c.finishedBreak p with
  | none => rfl
  | some (.glitch, _) | some (.pulse, _) | some (.gap, _) | some (.flash, _) | some (.clear, _) => rfl

theorem classedBreak_glitch_iff {len : Option Nat} :
    (classedBreak s n len).map Prod.fst = some .glitch ↔
      len.any (fun L => decide (L < (s.profileOf n).pbMin)) = true := by
  cases len <;> simp [classedBreak, breakClass_glitch_iff]

theorem classedBreak_clear_iff (hp : Installed (s.profileOf n)) {len : Option Nat} :
    (classedBreak s n len).map Prod.fst = some .clear ↔ outlasts s n len = true := by
  cases len <;> simp [classedBreak, outlasts, breakClass_clear_iff hp]

/-- R45, R52, R56, R57: a close is confirmed with the run start that it has. -/
theorem exists_runStart_of_closesWith {m0 : BitVec 32} {len : Option Nat} (h : ClosesWith s n m0 len) :
    ∃ m, runStartAt (s.line n).cls ((s.line n).sampleIndex + 1) = some m ∧
      len = (s.line n).cls.breakStart.map (fun k0 => 2 * (m - k0).toNat) ∧
      m0 = if len.any (fun L => decide (L < (s.profileOf n).pbMin)) = true
        then (s.line n).cls.bridge.getD m else m := by
  unfold ClosesWith at h
  split at h
  · exact h.elim
  · next m hm => exact ⟨m, hm, h⟩

/-- R56: the break that a confirmed close finishes. -/
theorem finishedBreak_eq {m0 : BitVec 32} {len : Option Nat} (h : ClosesWith s n m0 len) :
    ((s.line n).cls.running .closed ((s.line n).sampleIndex + 1)).finishedBreak (s.profileOf n) =
      classedBreak s n len := by
  obtain ⟨m, hm, hlen, -⟩ := exists_runStart_of_closesWith h
  simp only [Classifier.finishedBreak, Classifier.running, hm, hlen]
  cases (s.line n).cls.breakStart with
  | none => rfl
  | some k0 => simp [classedBreak, indexSpan, Nat.mul_comm]

/-- R52, R57: the make start of a confirmed close is the run start, or the marker where a glitch is bridged. -/
theorem makeStart_eq {m0 : BitVec 32} {len : Option Nat} (h : ClosesWith s n m0 len) : some m0 =
    if (classedBreak s n len).map Prod.fst = some .glitch
      then (s.line n).cls.bridge.orElse fun _ => runStartAt (s.line n).cls ((s.line n).sampleIndex + 1)
      else runStartAt (s.line n).cls ((s.line n).sampleIndex + 1) := by
  obtain ⟨m, hm, -, hm0⟩ := exists_runStart_of_closesWith h
  simp only [classedBreak_glitch_iff, hm, hm0]
  split
  · cases (s.line n).cls.bridge <;> rfl
  · rfl

/-- R45, R52, R55 to R57: the line of a close confirmed with this make start and finished break. -/
theorem closedLine_eq {m0 : BitVec 32} {len : Option Nat} (hp : Installed (s.profileOf n))
    (hc : (s.line n).cls.confirmed = .opened) (h : ClosesWith s n m0 len) :
    closedLine s n m0 len = sampledLine s n
      (((s.line n).cls.running .closed ((s.line n).sampleIndex + 1)).confirmClose (s.profileOf n)) := by
  rw [Classifier.confirmClose_eq, finishedBreak_eq h]
  simp only [closedLine, sampledLine, Classifier.running, makeStart_eq h, classedBreak_clear_iff hp, hc,
    reduceCtorEq, if_false]

/-- R45, R53: a make sample that is ignored, as is the break that it finishes if it confirms a close. -/
theorem quietSample_of_makeAt {m0 : BitVec 32} {len : Option Nat} (h : MakeAt s n v m0 len)
    (hbreak : BreakIgnored s n len) (hmake : MakeIgnored s n m0) :
    QuietSample s n v (closedLine s n m0 len) := by
  obtain ⟨-, hp, hh, hshows, hcase⟩ := h
  have hraw := rawAfter_of_showsClosed hshows
  rcases hcase with ⟨hc, hm, rfl⟩ | ⟨hc, hd, hw⟩
  · have hline : closedLine s n m0 none = steadyLine s n := by
      simp [closedLine, steadyLine, outlasts, hc, hm]
    rw [hline]
    refine quietSample_of_make hh (Classifier.hookDecision_of_agrees (hraw.trans hc.symm)) hc hc
      (fun k hk' => ?_) (.inl rfl)
    obtain rfl : m0 = k := Option.some.inj (hm.symm.trans hk')
    exact hmake
  · have hline := closedLine_eq hp hc hw
    have hcls := congrArg Line.cls hline
    rw [hline]
    refine quietSample_of_make hh (Classifier.hookDecision_of_closes hraw hc hd)
      (Classifier.confirmClose_confirmed _ _) (congrArg Classifier.raw hcls).symm (fun k hk' => ?_)
      (.inr ⟨by simp [Classifier.confirmClose_confirmed, hc], len, by rw [finishedBreak_eq hw], hbreak, hmake.1⟩)
    obtain rfl : m0 = k := Option.some.inj ((congrArg Classifier.makeStart hcls).trans hk')
    exact hmake

end

theorem quietSample_of_uneventful {s : State} {n : LineNo} {v : Nat} {l : Line} (h : Uneventful s n v l) :
    Sampled s n ∧ Watched s n ∧ QuietSample s n v l := by
  rcases h with ⟨hs, hm, rfl⟩ | ⟨hst, rfl, hmake⟩ | ⟨hs, hh, hshows, hd, rfl⟩ | ⟨k0, hb, hshort, hseiz, rfl⟩ |
    ⟨m0, len, hm, hbreak, hmake, rfl⟩
  · exact ⟨hs, .inl hm, quietSample_of_unjudged v (.inl hm)⟩
  · have ⟨hs, hh, _⟩ := hst
    exact ⟨hs, .inr hh, quietSample_of_steady hst hmake⟩
  · exact ⟨hs, .inr hh, quietSample_of_differing hh hshows hd⟩
  · have ⟨hs, hh, _⟩ := hb
    exact ⟨hs, .inr hh, quietSample_of_breakAt hb hshort hseiz⟩
  · have ⟨hs, _, hh, _⟩ := hm
    exact ⟨hs, .inr hh, quietSample_of_makeAt hm hbreak hmake⟩

end Sys2Proof.Machine
end

section
/-! PROOFS. O29: a sample of which the line's state acts on nothing, carried through the stages that follow
stage 2, each of which finds nothing to do. -/

namespace Sys2Proof.Machine

open Sys2Proof.Safety

/-! ### The Supervisor at such a sample (R68) -/

/-- What the Supervisor judges a sample of line n by is in `t` as in `s`. -/
structure Alike (n : LineNo) (s t : State) : Prop where
  sup : (t.line n).sup = (s.line n).sup
  control : t.control = s.control
  sched : t.sched = s.sched
  shelfTime : t.shelfTime = s.shelfTime

section

variable {n : LineNo} {s t : State}

theorem Alike.stateOf (h : Alike n s t) : t.stateOf n = s.stateOf n := congrArg Supervision.state h.sup

theorem Alike.profileOf (h : Alike n s t) : t.profileOf n = s.profileOf n := by
  simp only [State.profileOf, h.sup, h.control]

theorem Alike.bookingOf (h : Alike n s t) : t.bookingOf n = s.bookingOf n := by
  rw [State.bookingOf, h.sched, State.bookingOf]

theorem Alike.deadlineDue (h : Alike n s t) : t.deadlineDue n = s.deadlineDue n := by
  rw [State.deadlineDue, h.sup, State.time32, h.shelfTime, State.deadlineDue, State.time32]

/-- R54: a clear is acted on in the six states of `Calling` alone. -/
theorem itemClear_of_not_calling (h : ¬Calling t n) : t.itemClear n = t := by
  unfold State.itemClear
  split
  case h_1 hs | h_2 hs | h_3 hs | h_4 hs | h_5 hs | h_6 hs => exact absurd (by simp [Calling, hs]) h
  all_goals rfl

theorem classedBreak_eq_some {len : Option Nat} {k : BreakClass} {L : Nat}
    (h : classedBreak s n len = some (k, L)) : len = some L ∧ breakClass (s.profileOf n) L = k := by
  cases len with
  | none => cases h
  | some L' =>
    cases h
    exact ⟨rfl, rfl⟩

/-- R72 to R81: a confirmed close outside IDLE whose break is ignored does nothing. -/
theorem itemClose_of_ignored {len : Option Nat} (ha : Alike n s t) (hidle : s.stateOf n ≠ .idle)
    (hbreak : BreakIgnored s n len) : t.itemClose n (classedBreak s n len) = t := by
  have hst := ha.stateOf
  unfold State.itemClose
  split
  case h_1 hs => exact absurd (hst ▸ hs) hidle
  case h_2 hs hf =>
    obtain ⟨hlen, hclass⟩ := classedBreak_eq_some hf
    obtain ⟨-, hdialTone, -, -⟩ := hbreak _ hlen
    exact absurd (le_of_breakClass_pulse hclass) (hdialTone (hst ▸ hs))
  case h_3 hs hf =>
    obtain ⟨hlen, hclass⟩ := classedBreak_eq_some hf
    obtain ⟨-, -, hdialing, -⟩ := hbreak _ hlen
    rcases hdialing (hst ▸ hs) with hlow | ⟨hskip, -⟩
    · exact absurd (le_of_breakClass_pulse hclass).1 (not_le.2 hlow)
    · exact if_pos (ha.sup ▸ hskip)
  case h_4 hs hf =>
    obtain ⟨hlen, hclass⟩ := classedBreak_eq_some hf
    obtain ⟨-, -, hdialing, -⟩ := hbreak _ hlen
    rcases hdialing (hst ▸ hs) with hlow | ⟨hskip, -⟩
    · exact absurd (le_of_breakClass_gap hclass) (not_le.2 hlow)
    · exact if_pos (ha.sup ▸ hskip)
  case h_5 hs hf =>
    obtain ⟨hlen, hclass⟩ := classedBreak_eq_some hf
    obtain ⟨-, -, hdialing, -⟩ := hbreak _ hlen
    obtain ⟨hmin, hflash⟩ := le_of_breakClass_flash hclass
    rcases hdialing (hst ▸ hs) with hlow | ⟨-, hlow⟩
    · exact absurd hmin (not_le.2 hlow)
    · exact absurd hflash (not_le.2 hlow)
  case h_6 hs hf =>
    obtain ⟨hlen, hclass⟩ := classedBreak_eq_some hf
    obtain ⟨-, -, -, hinCall⟩ := hbreak _ hlen
    exact absurd (le_of_breakClass_flash hclass).2 (not_le.2 (hinCall (hst ▸ hs)))
  case h_7 hf _ =>
    obtain ⟨hlen, hclass⟩ := classedBreak_eq_some hf
    obtain ⟨hcalling, -⟩ := hbreak _ hlen
    refine itemClear_of_not_calling fun hc => absurd (lt_of_breakClass_clear hclass) (not_lt.2 ?_)
    exact hcalling (by simpa only [Calling, hst] using hc)
  case h_8 => rfl

/-- R72 to R74, R77, R115, R117: a make that is ignored does nothing. -/
theorem itemMake_of_ignored {m0 : BitVec 32} (fresh : Bool) (ha : Alike n s t) (h : MakeIgnored s n m0) :
    t.itemMake n (makeElapsed s n m0) fresh = t := by
  obtain ⟨hidle, hsq, hring, hdial⟩ := h
  unfold State.itemMake
  split
  case h_1 hs => exact absurd (ha.stateOf ▸ hs) hidle
  case h_2 hs =>
    rw [ha.profileOf, if_neg (not_le.2 (hsq (.inl (ha.stateOf ▸ hs))))]
  case h_3 hs =>
    rcases hdial (ha.stateOf ▸ hs) with hlow | ⟨hpulse, hskip⟩
    · rw [ha.profileOf, if_neg (not_le.2 hlow)]
    · simp [State.endDigit, ha.sup, hpulse, hskip]
  case h_4 hs =>
    unfold State.makeRinging
    rw [ha.bookingOf]
    split
    · rfl
    · next b hb =>
      obtain ⟨hfirst, hlow⟩ := hring (ha.stateOf ▸ hs) b hb
      rw [hfirst, if_neg Bool.false_ne_true, ha.profileOf, if_neg (not_le.2 hlow)]
  case h_5 hs =>
    unfold State.makeWaiting
    rw [ha.profileOf, if_neg (not_le.2 (hsq (.inr (ha.stateOf ▸ hs))))]
  all_goals rfl

theorem itemOpen_of_not_seizing (h : t.stateOf n ≠ .seizing) : t.itemOpen n = t := by
  unfold State.itemOpen
  split
  · next hs => exact absurd hs h
  · rfl

/-- R68: the items of a sample of which the line's state acts on nothing do nothing. -/
theorem takeItems_of_ignored {c : Classifier} {h : HandOn} (ha : Alike n s t) (hi : Ignored s n c h)
    (now : Instant) : t.takeEvent n now h.event = t ∧ t.takeClear n h.clear = t ∧
      ∀ fresh, t.takeElapsed n fresh h.elapsed = t := by
  obtain ⟨hevent, hclear, helapsed⟩ := hi
  refine ⟨?_, by rw [hclear]; rfl, fun fresh => ?_⟩
  · rcases hevent with he | ⟨-, ⟨he, hs⟩ | ⟨len, he, hbreak, hidle⟩⟩ <;> rw [he]
    · rfl
    · exact itemOpen_of_not_seizing (ha.stateOf ▸ hs)
    · exact itemClose_of_ignored ha hidle hbreak
  · cases he : h.elapsed with
    | none => rfl
    | some x =>
      cases x with
      | breakFor ms => rfl
      | makeFor ms =>
        obtain ⟨m0, rfl, hmake⟩ := helapsed ms he
        exact itemMake_of_ignored fresh ha hmake

end

/-! ### The later stages (R41, R44, R67) -/

/-- Stage 2 done, and nothing else yet. -/
theorem alike_afterStage2 (s : State) (n : LineNo) (v : Nat) :
    Alike n s ((s.delivered n).afterStage2 n v) :=
  ⟨by simp [State.afterStage2], rfl, rfl, rfl⟩

/-- The line when the Supervisor begins. -/
theorem afterStage2_line {s : State} {n : LineNo} {v : Nat} {c : Classifier} {h : HandOn}
    (hclass : (s.delivered n).classified n v = (c, h)) :
    ((s.delivered n).afterStage2 n v).line n = sampledLine s n c := by
  simp [State.afterStage2, hclass, sampledLine]

section

variable {s : State} {n : LineNo} {v : Nat} {c : Classifier} {h : HandOn}

theorem afterClear_of_ignored (hclass : (s.delivered n).classified n v = (c, h)) (hi : Ignored s n c h) :
    (s.delivered n).afterClear n v = (s.delivered n).afterStage2 n v := by
  obtain ⟨hevent, hclear, -⟩ := takeItems_of_ignored (alike_afterStage2 s n v) hi
    ((s.delivered n).arrivalInstant n)
  rw [State.afterClear, State.afterEvent, State.handOn, hclass, hevent, hclear]

/-- R68: the items of the sample leave the line as stage 2 left it. -/
theorem afterItems_of_ignored (hw : Watched s n) (hclass : (s.delivered n).classified n v = (c, h))
    (hi : Ignored s n c h) : (s.delivered n).afterItems n v = (s.delivered n).afterStage2 n v := by
  obtain ⟨-, -, helapsed⟩ := takeItems_of_ignored (alike_afterStage2 s n v) hi
    ((s.delivered n).arrivalInstant n)
  have hitems : (s.delivered n).afterElapsed n v = (s.delivered n).afterStage2 n v := by
    rw [State.afterElapsed, afterClear_of_ignored hclass hi, State.handOn, hclass, helapsed]
  unfold State.afterItems
  rw [delivered_modeOf]
  rcases hw with hm | hm | hm <;> rw [hm] <;> exact hitems

end

theorem judgeDeadline_of_not_due {s : State} {n : LineNo} (h : s.deadlineDue n = none) :
    s.judgeDeadline n = s := by
  simp only [State.judgeDeadline, h]

/-- R44: the leakage check looks at the baseline and the flag of the line alone. -/
theorem checkLeakage_line (s : State) (n : LineNo) :
    (s.checkLeakage n).line n = leakChecked s (s.profileOf n).ll (s.line n) := by
  unfold State.checkLeakage leakChecked
  dsimp only [Classifier.leakage]
  split
  · split
    · simp [reported, Line.append]
    · rfl
  · split
    · simp [reported, Line.append]
    · rfl

theorem leakChecked_congr {s t : State} (hc : t.control = s.control) (ht : t.shelfTime = s.shelfTime)
    (limit : Nat) (l : Line) : leakChecked t limit l = leakChecked s limit l := by
  unfold leakChecked reported
  rw [hc, ht]

/-- R44: of the classifier the leakage check changes the flag alone. -/
theorem leakChecked_cls (s : State) (limit : Nat) (l : Line) :
    ∃ b, (leakChecked s limit l).cls = { l.cls with leakageHigh := b } := by
  unfold leakChecked
  split
  · split
    · exact ⟨false, rfl⟩
    · exact ⟨l.cls.leakageHigh, rfl⟩
  · split
    · exact ⟨true, rfl⟩
    · exact ⟨l.cls.leakageHigh, rfl⟩

theorem checkLeakage_sched (s : State) (n : LineNo) : (s.checkLeakage n).sched = s.sched := by
  unfold State.checkLeakage
  dsimp only
  split
  · split <;> rfl
  · split <;> rfl

/-- R41: stage 4 changes the baseline of the line alone. -/
theorem updateBaseline_line (s : State) (n : LineNo) (v tc : Nat) :
    ∃ b, (s.updateBaseline n v tc).line n = { s.line n with cls := { (s.line n).cls with baseline := b } } := by
  unfold State.updateBaseline
  split
  · exact ⟨_, State.updLine_line_same _ _ _⟩
  · exact ⟨(s.line n).cls.baseline, rfl⟩

theorem updateBaseline_alike (s : State) (n : LineNo) (v tc : Nat) : Alike n s (s.updateBaseline n v tc) := by
  unfold State.updateBaseline
  split
  · exact ⟨by simp, rfl, rfl, rfl⟩
  · exact ⟨rfl, rfl, rfl, rfl⟩

/-- R35: hook decisions leave the baseline. -/
theorem Classifier.hookDecision_baseline (c : Classifier) (p : Profile) (v : Nat) (k : BitVec 32) :
    (c.hookDecision p v k).1.baseline = c.baseline := by
  obtain ⟨hrun, -⟩ := c.advanceRun_counts (c.rawAfter p v) k
  unfold Classifier.hookDecision
  dsimp only
  split
  · split
    · exact hrun
    · obtain ⟨hclose, -⟩ := (c.advanceRun (c.rawAfter p v) k).confirmClose_counts p
      exact hclose.trans hrun
  · exact hrun

theorem Classifier.watch_baseline (c : Classifier) (p : Profile) (v : Nat) (k : BitVec 32) :
    (c.watch p v k).1.baseline = c.baseline := by
  have h := c.hookDecision_baseline p v k
  unfold Classifier.watch
  dsimp only
  split <;> exact h

theorem classified_baseline {s : State} {n : LineNo} (hw : Watched s n) (v : Nat) :
    ((s.delivered n).classified n v).1.baseline = (s.line n).cls.baseline := by
  rcases hw with hm | hh
  · rw [delivered_classified, hm]
    rfl
  · rw [classified_of_hooked hh]
    exact Classifier.watch_baseline _ _ _ _

/-- The line `l` with this baseline. -/
def withBaseline (l : Line) (b : Nat) : Line := { l with cls := { l.cls with baseline := b } }

section

variable {s : State} {n : LineNo} {c : Classifier} {h : HandOn} {a : Option Byte}

/-- R40, stages 3 and 4: with no deadline due the line keeps what stage 2 left it, but for its baseline in IDLE. -/
theorem afterStage4_of_ignored {v : Nat} (hw : Watched s n)
    (hclass : (s.delivered n).classified n v = (c, h)) (hi : Ignored s n c h)
    (hdue : s.deadlineDue n = none) :
    Alike n s ((s.delivered n).afterStage4 n v) ∧ ∃ b,
      ((s.delivered n).afterStage4 n v).line n = withBaseline (sampledLine s n c) b ∧
        (s.modeOf n ≠ .watchUpdate → b = c.baseline) := by
  have halike := alike_afterStage2 s n v
  have h3 : (s.delivered n).afterStage3 n v = (s.delivered n).afterStage2 n v := by
    rw [State.afterStage3, afterItems_of_ignored hw hclass hi,
      judgeDeadline_of_not_due (halike.deadlineDue.trans hdue)]
  unfold State.afterStage4
  rw [delivered_modeOf, h3]
  split
  · next hm =>
    have hbase := updateBaseline_alike ((s.delivered n).afterStage2 n v) n v
      (closeThreshold ((s.delivered n).profileOf n) ((s.delivered n).line n).cls)
    obtain ⟨b, hb⟩ := updateBaseline_line ((s.delivered n).afterStage2 n v) n v
      (closeThreshold ((s.delivered n).profileOf n) ((s.delivered n).line n).cls)
    rw [afterStage2_line hclass] at hb
    exact ⟨⟨hbase.sup.trans halike.sup, hbase.control, hbase.sched, hbase.shelfTime⟩, b, hb,
      fun hne => absurd hm hne⟩
  · exact ⟨halike, c.baseline, afterStage2_line hclass, fun _ => rfl⟩

/-- R40: the whole arrival of a sample of which the line's state acts on nothing, with no deadline due. -/
theorem arrival_of_quiet {l : Line} (hs : Sampled s n) (hw : Watched s n)
    (hq : QuietSample s n (sampleOf a) l) (hdue : s.deadlineDue n = none) :
    (s.arrival n a).sched = s.sched ∧
      (s.arrival n a).line n =
        leakChecked s (s.profileOf n).ll (withBaseline l ((s.arrival n a).line n).cls.baseline) ∧
      (s.modeOf n ≠ .watchUpdate → ((s.arrival n a).line n).cls.baseline = (s.line n).cls.baseline) := by
  obtain ⟨c, h, hclass, rfl, hi⟩ := hq
  obtain ⟨halike, b, hline, hb⟩ := afterStage4_of_ignored hw hclass hi hdue
  have hchecks : (s.delivered n).checksLeakage n (sampleOf a) = true := by
    unfold State.checksLeakage
    rw [delivered_modeOf]
    rcases hw with hm | hm | hm <;> rw [hm]
  have harrival : s.arrival n a = ((s.delivered n).afterStage4 n (sampleOf a)).checkLeakage n := by
    rw [arrival_of_sampled hs, State.stages, if_pos hchecks]
  have hend : (s.arrival n a).line n =
      leakChecked s (s.profileOf n).ll (withBaseline (sampledLine s n c) b) := by
    rw [harrival, checkLeakage_line, halike.profileOf, hline,
      leakChecked_congr halike.control halike.shelfTime]
  have hbase : ((s.arrival n a).line n).cls.baseline = b := by
    obtain ⟨x, hx⟩ := leakChecked_cls s (s.profileOf n).ll (withBaseline (sampledLine s n c) b)
    rw [hend, hx]
    rfl
  refine ⟨by rw [harrival, checkLeakage_sched, halike.sched], by rw [hbase]; exact hend, fun hm => ?_⟩
  have hkeep := classified_baseline hw (sampleOf a)
  rw [hclass] at hkeep
  rw [hbase, hb hm, ← hkeep]

/-- R45: such an arrival leaves the confirmed state that stage 2 made. -/
theorem arrival_confirmed {l : Line} (hs : Sampled s n) (hw : Watched s n)
    (hq : QuietSample s n (sampleOf a) l) (hdue : s.deadlineDue n = none) :
    ((s.arrival n a).line n).cls.confirmed = l.cls.confirmed := by
  obtain ⟨-, hline, -⟩ := arrival_of_quiet hs hw hq hdue
  obtain ⟨x, hx⟩ := leakChecked_cls s (s.profileOf n).ll (withBaseline l ((s.arrival n a).line n).cls.baseline)
  rw [hline, hx]
  rfl

/-! ### The rows that such a sample does not bring about (log 6) -/

theorem bringsEvent_eq_false {q : LineEvent → Bool}
    (hclass : (s.delivered n).classified n (sampleOf a) = (c, h)) (hq : ∀ e, h.event = some e → q e = false) :
    s.bringsEvent n a q = false := by
  unfold State.bringsEvent State.handOn
  rw [hclass]
  cases he : h.event with
  | none => exact Bool.and_false _
  | some e => simp [hq e he]

theorem bringsMake_eq_false {q : State → Nat → Bool}
    (hclass : (s.delivered n).classified n (sampleOf a) = (c, h)) (hi : Ignored s n c h)
    (hq : ∀ m0, MakeIgnored s n m0 →
      q ((s.delivered n).afterStage2 n (sampleOf a)) (makeElapsed s n m0) = false) :
    s.bringsMake n a q = false := by
  unfold State.bringsMake State.handOn
  dsimp only
  rw [hclass, afterClear_of_ignored hclass hi]
  split
  · next ms he =>
    obtain ⟨m0, rfl, hm⟩ := hi.elapsed ms he
    simp [hq m0 hm]
  · exact Bool.and_false _

theorem arrivalIf_false {due : Bool} (h : due = false) : s.arrivalIf due n a = s := by
  rw [h]
  rfl

/-- R67: no expiry comes about where no deadline is due once the items are acted on. -/
theorem bringsExpiry_eq_false
    (h : ((s.delivered n).afterItems n (sampleOf a)).deadlineDue n = none) (kind : DeadlineKind)
    (st : LineState) : s.bringsExpiry n a kind st = false := by
  simp [State.bringsExpiry, h]

theorem bringsGuardEnd_eq_false (h : s.stateOf n ≠ .ringGuard) : s.bringsGuardEnd n = false := by
  have hover : (s.line n).guardOver (s.arrivalInstant n) = none := by
    rw [Option.eq_none_iff_forall_ne_some]
    exact fun target ht => h (Line.guardOver_state ht)
  simp [State.bringsGuardEnd, hover]

theorem bringsTestEnd_eq_false (h : s.stateOf n ≠ .testing) : s.bringsTestEnd n a = false := by
  have hmeasured : (s.line n).measured (s.arrivalInstant n) (sampleOf a) = none := by
    unfold Line.measured
    split
    · next hs _ => exact absurd hs h
    · rfl
  simp [State.bringsTestEnd, hmeasured]

theorem bringsSeizure_eq_false (hclass : (s.delivered n).classified n (sampleOf a) = (c, h))
    (hi : Ignored s n c h) : s.bringsSeizure n a = false := by
  have ha := alike_afterStage2 s n (sampleOf a)
  refine bringsMake_eq_false hclass hi fun m0 hm => ?_
  obtain ⟨-, hsq, -, -⟩ := hm
  rw [ha.stateOf, ha.profileOf]
  by_cases hs : s.stateOf n = .seizing
  · simp [hsq (.inl hs)]
  · simp [hs]

theorem bringsDigit_eq_false (hclass : (s.delivered n).classified n (sampleOf a) = (c, h))
    (hi : Ignored s n c h) : s.bringsDigit n a = false := by
  have ha := alike_afterStage2 s n (sampleOf a)
  refine bringsMake_eq_false hclass hi fun m0 hm => ?_
  obtain ⟨-, -, -, hdial⟩ := hm
  rw [ha.stateOf, ha.profileOf, ha.sup]
  by_cases hs : s.stateOf n = .dialing
  · rcases hdial hs with hlow | ⟨hpulse, hskip⟩
    · simp [hlow]
    · simp [hpulse, hskip]
  · simp [hs]

theorem bringsAnswerBeforeRing_eq_false (hclass : (s.delivered n).classified n (sampleOf a) = (c, h))
    (hi : Ignored s n c h) : s.bringsAnswerBeforeRing n a = false := by
  have ha := alike_afterStage2 s n (sampleOf a)
  refine bringsMake_eq_false hclass hi fun m0 hm => ?_
  obtain ⟨-, hsq, hring, -⟩ := hm
  rw [ha.stateOf, ha.profileOf, ha.bookingOf]
  by_cases hs : s.stateOf n = .ringWait
  · simp [hsq (.inr hs)]
  · by_cases hr : s.stateOf n = .ringing
    · cases hb : s.bookingOf n with
      | none => simp [hs]
      | some b =>
        obtain ⟨-, hlow⟩ := hring hr b hb
        simp [hlow]
    · simp [hs, hr]

/-- Log 6: where the line's state acts on nothing of the sample, no row that names what a sample brings about does
anything, but for the confirmed change that the sample makes of the hook. -/
theorem bringsNothing_of_ignored (hclass : (s.delivered n).classified n (sampleOf a) = (c, h))
    (hi : Ignored s n c h) (hmode : s.modeOf n ≠ .ignore)
    (hdue : ((s.delivered n).afterItems n (sampleOf a)).deadlineDue n = none)
    (hend : ((s.arrival n a).line n).cls.confirmed = c.confirmed) : BringsNothing s n a := by
  obtain ⟨hguard, htest⟩ := state_of_not_ignored hmode
  have hnothing {due : Bool} (hd : due = false) :
      (.next (s.arrivalIf due n a) : Result) = .next s := congrArg _ (arrivalIf_false hd)
  have hchange (e : LineEvent) (he : h.event = some e) :
      c.confirmed ≠ (s.line n).cls.confirmed ∧ (e = .opened ∨ ∃ f, e = .closed f) := by
    rcases hi.event with hn | ⟨hne, ⟨ho, -⟩ | ⟨len, hc, -, -⟩⟩
    · rw [hn] at he
      cases he
    · exact ⟨hne, .inl (Option.some.inj (he.symm.trans ho))⟩
    · exact ⟨hne, .inr ⟨_, Option.some.inj (he.symm.trans hc)⟩⟩
  have hlearned : s.bringsLearned n a = false := bringsEvent_eq_false hclass fun e he => by
    obtain ⟨-, rfl | ⟨f, rfl⟩⟩ := hchange e he <;> rfl
  have htrip : s.bringsTrip n a = false := bringsEvent_eq_false hclass fun e he => by
    obtain ⟨-, rfl | ⟨f, rfl⟩⟩ := hchange e he <;> rfl
  have hclear : s.bringsClear n a = false := by
    simp [State.bringsClear, State.handOn, hclass, hi.clear]
  refine ⟨?_, fun t ht hsame => ?_⟩
  · simp only [List.forall_mem_cons, List.not_mem_nil, false_imp_iff, implies_true, and_true]
    exact ⟨hnothing hlearned, hnothing hclear, hnothing (bringsSeizure_eq_false hclass hi),
      hnothing (bringsDigit_eq_false hclass hi), hnothing (bringsAnswerBeforeRing_eq_false hclass hi),
      hnothing htrip, hnothing (bringsExpiry_eq_false hdue _ _), hnothing (bringsExpiry_eq_false hdue _ _),
      hnothing (bringsExpiry_eq_false hdue _ _), hnothing (bringsExpiry_eq_false hdue _ _),
      hnothing (bringsGuardEnd_eq_false hguard), hnothing (bringsTestEnd_eq_false htest)⟩
  · obtain rfl : s.arrival n a = t := Host.Outcome.next.inj ht
    have hnone (e : LineEvent) (he : h.event = some e) : False :=
      (hchange e he).1 (hend.symm.trans hsame)
    exact ⟨hnothing (bringsEvent_eq_false hclass fun e he => (hnone e he).elim),
      hnothing (bringsEvent_eq_false hclass fun e he => (hnone e he).elim)⟩

end

/-! ### OUT OF SERVICE (R39, R70) -/

theorem alike_delivered (s : State) (n : LineNo) : Alike n s (s.delivered n) :=
  ⟨by simp, rfl, rfl, rfl⟩

theorem afterItems_of_off {s : State} {n : LineNo} (hm : s.modeOf n = .off) (v : Nat) :
    (s.delivered n).afterItems n v = s.delivered n := by
  unfold State.afterItems
  rw [delivered_modeOf, hm]

/-- R39, R70: in OUT OF SERVICE a sample advances the index alone. -/
theorem arrival_of_off {s : State} {n : LineNo} (hs : Sampled s n) (hm : s.modeOf n = .off)
    (hdue : s.deadlineDue n = none) (a : Option Byte) : s.arrival n a = s.delivered n := by
  have h3 : (s.delivered n).afterStage3 n (sampleOf a) = s.delivered n := by
    rw [State.afterStage3, afterItems_of_off hm,
      judgeDeadline_of_not_due ((alike_delivered s n).deadlineDue.trans hdue)]
  rw [arrival_of_sampled hs]
  simp [State.stages, State.checksLeakage, State.afterStage4, h3, hm]

/-- Settles O29: the index by `arrival_sampleIndex`, and an uneventful sample, once `quietSample_of_uneventful` has
named its hand-on, by `arrival_of_quiet` and `bringsNothing_of_ignored`. -/
theorem sampleAdvancesIndex : Obligations.SampleAdvancesIndex := by
  intro n a s
  refine ⟨fun hs => ⟨_, rfl, arrival_sampleIndex hs a⟩, fun hs => ?_, rfl,
    fun hdue => ⟨fun hs hm => ?_, fun l hl => ?_⟩⟩
  · exact congrArg Host.Outcome.next (if_neg fun hd => hs (delivers_iff.1 hd))
  · obtain ⟨c, h, hclass, hline, hi⟩ := quietSample_of_unjudged (sampleOf a) (.inr hm)
    have harrival := arrival_of_off hs hm hdue a
    refine ⟨bringsNothing_of_ignored hclass hi (by simp [hm]) ?_ ?_, _, rfl, ?_⟩
    · rw [afterItems_of_off hm, (alike_delivered s n).deadlineDue, hdue]
    · rw [harrival, delivered_line]
      exact congrArg (fun l => l.cls.confirmed) hline
    · rw [harrival]
      exact ⟨rfl, delivered_line s n⟩
  · obtain ⟨hs, hw, hq⟩ := quietSample_of_uneventful hl
    obtain ⟨hsched, hline, hbase⟩ := arrival_of_quiet hs hw hq hdue
    have hconfirmed := arrival_confirmed hs hw hq hdue
    refine ⟨?_, _, rfl, hsched, hline, fun hne => hbase fun hm => ?_⟩
    · obtain ⟨c, h, hclass, rfl, hi⟩ := hq
      refine bringsNothing_of_ignored hclass hi hw.ne_ignore ?_ hconfirmed
      rw [afterItems_of_ignored hw hclass hi, (alike_afterStage2 s n _).deadlineDue, hdue]
    · rcases hne with hne | htransient
      · exact hne (Line.idle_of_mode hm)
      · rw [hm] at htransient
        cases htransient

end Sys2Proof.Machine
end

section
/-! PROOFS. O14: what a parameter load makes of the timing profiles. -/

namespace Sys2Proof.Machine

open Sys2Proof.Safety

/-- R20: the profile that a load installs is the profile of the block, clamped, made even and ordered. -/
theorem State.loadedParams_profile (s : State) (p : Fin 8) :
    s.loadedParams.profiles[p] = (s.rawProfile p).adjusted := by
  simp [State.loadedParams]

/-- Settles O14: each field is its clamped and ordered field of the block, and the ranges are those of
`Profile.adjusted_inRange`. -/
theorem profilesClampedAndOrdered : Obligations.ProfilesClampedAndOrdered := by
  intro s p
  rw [State.loadedParams_profile]
  refine ⟨rfl, roundEven_eq_two_mul _, roundEven_eq_two_mul _, ?_, ?_, ?_, ?_, rfl, rfl, rfl, rfl,
    rfl, rfl, rfl, rfl, rfl, (s.rawProfile p).adjusted_inRange⟩
  · exact congrArg (max · _) (roundEven_eq_two_mul _)
  · exact congrArg (max · _) (roundEven_eq_two_mul _)
  · exact congrArg (max · _) (roundEven_eq_two_mul _)
  · exact congrArg (max · _) (roundEven_eq_two_mul _)

end Sys2Proof.Machine
end

section
/-! PROOFS. The classifier after a sample: the Supervisor leaves it as stage 2 made it, and stages 4 and 5 move
the baseline and the leakage-high flag alone (R40, R41, R44). -/

namespace Sys2Proof.Machine

open Sys2Proof.Safety

/-! ### The Supervisor leaves the classifier (R68) -/

@[simp] theorem itemClear_cls (s : State) (n : LineNo) : ((s.itemClear n).line n).cls = (s.line n).cls := by
  unfold State.itemClear
  split <;> simp [State.clearLine, State.clearDialing]

theorem pulseDialing_cls (s : State) (n : LineNo) : ((s.pulseDialing n).line n).cls = (s.line n).cls := by
  unfold State.pulseDialing
  dsimp only
  split
  · rfl
  · split <;> simp

theorem gapDialing_cls (s : State) (n : LineNo) : ((s.gapDialing n).line n).cls = (s.line n).cls := by
  unfold State.gapDialing
  split <;> simp

theorem itemClose_cls (s : State) (n : LineNo) (finished : Option (BreakClass × Nat)) :
    ((s.itemClose n finished).line n).cls = (s.line n).cls := by
  unfold State.itemClose
  split
  case h_1 => simp [State.startSeizing]
  case h_2 => simp [State.firstPulse]
  case h_3 => exact pulseDialing_cls s n
  case h_4 => exact gapDialing_cls s n
  case h_5 => simp [State.flashDialing]
  case h_6 => simp
  case h_7 => exact itemClear_cls s n
  case h_8 => rfl

theorem itemOpen_cls (s : State) (n : LineNo) : ((s.itemOpen n).line n).cls = (s.line n).cls := by
  unfold State.itemOpen
  split <;> simp

/-- R39, R116: a trip releases the relay at most, which leaves a trip-confirm count of 0 as it is. -/
theorem itemTrip_cls {s : State} {n : LineNo} (h : (s.line n).cls.tripCount = 0) (now : Instant) :
    ((s.itemTrip n now).line n).cls = (s.line n).cls := by
  have hreleased : (s.line n).cls.relayReleased = (s.line n).cls := by
    rw [Classifier.relayReleased, ← h]
  unfold State.itemTrip
  split
  · rw [State.report_line_same, Line.append_cls, State.updLine_line_same]
    dsimp only
    split
    · rw [Line.noticeReleased_cls]
      exact hreleased
    · rfl
  · rfl

theorem takeEvent_cls {s : State} {n : LineNo} {e : Option LineEvent}
    (h : e = some .trip → (s.line n).cls.tripCount = 0) (now : Instant) :
    ((s.takeEvent n now e).line n).cls = (s.line n).cls := by
  match e with
  | none => rfl
  | some .opened => exact itemOpen_cls s n
  | some (.closed finished) => exact itemClose_cls s n finished
  | some .trip => exact itemTrip_cls (h rfl) now
  | some .learned => simp [State.takeEvent, State.itemLearned]

theorem takeClear_cls (s : State) (n : LineNo) (clear : Option Nat) :
    ((s.takeClear n clear).line n).cls = (s.line n).cls := by
  match clear with
  | none => rfl
  | some _ => exact itemClear_cls s n

theorem endDigit_cls (s : State) (n : LineNo) : ((s.endDigit n).line n).cls = (s.line n).cls := by
  unfold State.endDigit
  dsimp only
  split
  · simp
  · split <;> simp

theorem answerNow_cls (s : State) (n : LineNo) (how : AnswerKind) (frames : Nat) :
    ((s.answerNow n how frames).line n).cls = (s.line n).cls := by
  simp [State.answerNow]

theorem makeRinging_cls (s : State) (n : LineNo) (ms : Nat) :
    ((s.makeRinging n ms).line n).cls = (s.line n).cls := by
  unfold State.makeRinging
  split
  · rfl
  · split
    · exact answerNow_cls (s.dropBookings (· = n)) n _ _
    · split
      · exact answerNow_cls (s.dropBookings (· = n)) n _ _
      · rfl

theorem makeWaiting_cls (s : State) (n : LineNo) (ms : Nat) :
    ((s.makeWaiting n ms).line n).cls = (s.line n).cls := by
  unfold State.makeWaiting
  split
  · exact answerNow_cls (s.dropWaits (· = n)) n _ _
  · rfl

theorem itemMake_cls (s : State) (n : LineNo) (ms : Nat) (fresh : Bool) :
    ((s.itemMake n ms fresh).line n).cls = (s.line n).cls := by
  unfold State.itemMake
  split
  case h_1 => split <;> simp [State.startSeizing]
  case h_2 => split <;> simp [State.qualifySeizure]
  case h_3 =>
    split
    · exact endDigit_cls s n
    · rfl
  case h_4 => exact makeRinging_cls s n ms
  case h_5 => exact makeWaiting_cls s n ms
  all_goals rfl

theorem takeElapsed_cls (s : State) (n : LineNo) (fresh : Bool) (e : Option Elapsed) :
    ((s.takeElapsed n fresh e).line n).cls = (s.line n).cls := by
  match e with
  | none => rfl
  | some (.breakFor _) => rfl
  | some (.makeFor ms) => exact itemMake_cls s n ms fresh

theorem judgeDeadline_cls (s : State) (n : LineNo) :
    ((s.judgeDeadline n).line n).cls = (s.line n).cls := by
  unfold State.judgeDeadline State.expire
  split
  · split <;> simp [State.expireToHowler, State.expireToLockout]
  · rfl

/-- R48: a trip leaves the trip-confirm count at 0. -/
theorem Classifier.stage2_trip {c : Classifier} {m : Mode} {p : Profile} {v : Nat} {k : BitVec 32}
    (h : (c.stage2 m p v k).2.event = some .trip) : (c.stage2 m p v k).1.tripCount = 0 := by
  cases m with
  | watchUpdate | watch =>
    rcases c.hookDecision_event p v k with he | he | ⟨f, he, -⟩ <;>
      simp [Classifier.stage2, Classifier.watch, he] at h
  | burst =>
    simp only [Classifier.stage2, Classifier.tripWatch] at h ⊢
    split at h
    · split at h
      · simp [*]
      · cases h
    · cases h
  | learn =>
    simp only [Classifier.stage2, Classifier.learnSample] at h
    split at h <;> cases h
  | transient | off | ignore => cases h

/-- R40, R68: outside the ignore mode the items of a sample leave the classifier as stage 2 made it. -/
theorem afterItems_cls {s : State} {n : LineNo} (hm : s.modeOf n ≠ .ignore) (v : Nat) :
    ((s.afterItems n v).line n).cls = (s.classified n v).1 := by
  have hclass : ((s.afterStage2 n v).line n).cls = (s.classified n v).1 := by
    simp [State.afterStage2]
  have hitems : ((s.afterElapsed n v).line n).cls = (s.classified n v).1 := by
    rw [State.afterElapsed, takeElapsed_cls, State.afterClear, takeClear_cls, State.afterEvent,
      takeEvent_cls (fun he => ?_), hclass]
    rw [hclass]
    exact Classifier.stage2_trip he
  unfold State.afterItems
  split
  · next h => exact absurd h hm
  · next h => rw [State.classified, h]; rfl
  all_goals exact hitems

/-! ### The ignore mode (R46, R118, R137) -/

theorem Line.measured_state {l : Line} {now : Instant} {v : Nat} {r : TestRecord}
    (h : l.measured now v = some r) : l.sup.state = .testing := by
  unfold Line.measured at h
  split at h
  · assumption
  · cases h

/-- R118: the end of a guard takes the line out of RING GUARD, with no deadline, and keeps its baseline. -/
theorem endGuard_line (s : State) (n : LineNo) (target : ExitTarget) :
    (s.endGuard n target).stateOf n ≠ .ringGuard ∧
      ((s.endGuard n target).line n).sup.deadline = none ∧
      ((s.endGuard n target).line n).cls.baseline = (s.line n).cls.baseline := by
  unfold State.endGuard State.stateOf
  split
  · simp [Line.guardToCall, Classifier.leaveIgnore]
  all_goals simp [Line.guardTo, Classifier.leaveIgnore]

/-- R118, R137: a sample in the ignore mode keeps the baseline, and the whole classifier but where it ends the
guard or the test. -/
theorem ignoredSample_line (s : State) (n : LineNo) (now : Instant) (v : Nat) :
    ((s.ignoredSample n now v).line n).cls.baseline = (s.line n).cls.baseline ∧
      (((s.ignoredSample n now v).line n).cls = (s.line n).cls ∨
        (s.ignoredSample n now v).stateOf n ≠ s.stateOf n ∧
          ((s.ignoredSample n now v).line n).sup.deadline = none) := by
  unfold State.ignoredSample
  split
  · next target hg =>
    obtain ⟨hst, hd, hb⟩ := endGuard_line s n target
    exact ⟨hb, .inr ⟨fun h => hst (h.trans (Line.guardOver_state hg)), hd⟩⟩
  · split
    · next r hr =>
      have htesting : s.stateOf n = .testing := Line.measured_state hr
      split
      · refine ⟨by simp [State.finishTest, Line.endTest, Classifier.leaveIgnore], .inr ⟨?_, ?_⟩⟩
        · rw [htesting]
          simp [State.finishTest, Line.endTest, State.stateOf]
        · simp [State.finishTest, Line.endTest]
      · exact ⟨by simp, .inl (by simp)⟩
    · exact ⟨rfl, .inl rfl⟩

theorem afterItems_of_ignore {s : State} {n : LineNo} (hm : s.modeOf n = .ignore) (v : Nat) :
    s.afterItems n v = s.ignoredSample n (s.arrivalInstant n) v := by
  simp only [State.afterItems, hm]

/-- R46: while the line stays in its state, a sample in the ignore mode keeps the classifier. -/
theorem afterStage3_cls_of_ignore {s : State} {n : LineNo} (hm : s.modeOf n = .ignore) (v : Nat)
    (hst : (s.afterStage3 n v).stateOf n = s.stateOf n) :
    ((s.afterStage3 n v).line n).cls = (s.line n).cls := by
  rw [State.afterStage3, afterItems_of_ignore hm] at hst ⊢
  obtain ⟨-, hcls | ⟨hne, hd⟩⟩ := ignoredSample_line s n (s.arrivalInstant n) v
  · rw [judgeDeadline_cls, hcls]
  · rw [judgeDeadline_of_not_due (deadlineDue_of_none hd)] at hst
    exact absurd hst hne

/-! ### Stages 3 to 5 (R40, R41, R44) -/

theorem afterStage3_cls {s : State} {n : LineNo} (hm : s.modeOf n ≠ .ignore) (v : Nat) :
    ((s.afterStage3 n v).line n).cls = (s.classified n v).1 := by
  rw [State.afterStage3, judgeDeadline_cls, afterItems_cls hm]

/-- R44: the leakage check leaves the supervision of the line. -/
theorem checkLeakage_sup (s : State) (n : LineNo) : ((s.checkLeakage n).line n).sup = (s.line n).sup := by
  rw [checkLeakage_line]
  unfold leakChecked
  split
  · split <;> rfl
  · split <;> rfl

/-- R41: the baseline of line n after stage 4. -/
def trackedBaseline (s : State) (n : LineNo) (v : Nat) : Nat :=
  let t := s.afterStage3 n v
  if s.modeOf n = .watchUpdate ∧ t.stateOf n = .idle ∧ (t.line n).cls.confirmed = .opened ∧ v ≤ closeAt s n
  then baselineStep (t.line n).cls.baseline v else (t.line n).cls.baseline

theorem afterStage4_line (s : State) (n : LineNo) (v : Nat) :
    (s.afterStage4 n v).line n = withBaseline ((s.afterStage3 n v).line n) (trackedBaseline s n v) := by
  unfold State.afterStage4 trackedBaseline
  by_cases hm : s.modeOf n = .watchUpdate
  · simp only [hm, true_and, if_true, State.updateBaseline, closeAt]
    split
    · exact State.updLine_line_same _ _ _
    · rfl
  · simp only [hm, false_and, if_false]
    rfl

theorem afterStage4_sched (s : State) (n : LineNo) (v : Nat) :
    (s.afterStage4 n v).sched = (s.afterStage3 n v).sched := by
  unfold State.afterStage4
  split
  · exact (updateBaseline_alike _ _ _ _).sched
  · rfl

/-- R40: stages 4 and 5 move the baseline and the leakage-high flag, and leave the supervision of the line and the
ring lists. -/
theorem stages_line (s : State) (n : LineNo) (v : Nat) :
    (∃ x, ((s.stages n v).line n).cls = { ((s.afterStage3 n v).line n).cls with
        baseline := trackedBaseline s n v, leakageHigh := x }) ∧
      (s.stages n v).stateOf n = (s.afterStage3 n v).stateOf n ∧
      (s.stages n v).sched = (s.afterStage3 n v).sched := by
  have hline := afterStage4_line s n v
  have hsched := afterStage4_sched s n v
  unfold State.stages State.stateOf
  split
  · obtain ⟨x, hx⟩ := leakChecked_cls (s.afterStage4 n v) ((s.afterStage4 n v).profileOf n).ll
      ((s.afterStage4 n v).line n)
    rw [checkLeakage_sup, checkLeakage_sched, checkLeakage_line, hx, hline]
    exact ⟨⟨x, rfl⟩, rfl, hsched⟩
  · rw [hline]
    exact ⟨⟨_, rfl⟩, rfl, hsched⟩

section

variable {s : State} {n : LineNo}

@[simp] theorem delivered_stateOf (s : State) (n : LineNo) : (s.delivered n).stateOf n = s.stateOf n := by
  simp [State.stateOf]

@[simp] theorem delivered_closeAt (s : State) (n : LineNo) : closeAt (s.delivered n) n = closeAt s n := by
  simp [closeAt]

/-- R40: what the classifier is after a sample arrival outside the ignore mode. -/
theorem arrival_cls (hs : Sampled s n) (hm : s.modeOf n ≠ .ignore) (a : Option Byte) :
    ∃ b x, ((s.arrival n a).line n).cls =
      { ((s.delivered n).classified n (sampleOf a)).1 with baseline := b, leakageHigh := x } := by
  obtain ⟨⟨x, hx⟩, -⟩ := stages_line (s.delivered n) n (sampleOf a)
  rw [afterStage3_cls (by simpa using hm)] at hx
  exact ⟨_, x, by rw [arrival_of_sampled hs, hx]⟩

theorem arrival_cls_of_hooked (hs : Sampled s n) (hh : Hooked s n) (a : Option Byte) :
    ∃ b x, ((s.arrival n a).line n).cls =
      { ((s.line n).cls.watch (s.profileOf n) (sampleOf a) ((s.line n).sampleIndex + 1)).1 with
        baseline := b, leakageHigh := x } := by
  rw [← classified_of_hooked hh]
  exact arrival_cls hs (Watched.ne_ignore (.inr hh)) a

/-- Log 6: the row that names an event of a sample is the whole arrival where the sample brings it about. -/
theorem bringsEvent_eq_true {a : Option Byte} {c : Classifier} {h : HandOn} {q : LineEvent → Bool}
    {e : LineEvent} (hs : Sampled s n)
    (hclass : (s.delivered n).classified n (sampleOf a) = (c, h)) (he : h.event = some e)
    (hq : q e = true) : s.bringsEvent n a q = true := by
  simp [State.bringsEvent, State.handOn, hclass, he, hq, delivers_iff.2 hs]

theorem arrivalIf_true {due : Bool} {a : Option Byte} (h : due = true) :
    s.arrivalIf due n a = s.arrival n a :=
  if_pos h

end

/-! ### Stage 2 with hook decisions, field by field (R38, R45) -/

section

variable (c : Classifier) (p : Profile) (v : Nat) (k : BitVec 32)

/-- R54, R55: the judgement of the sample moves k0 and the marker alone. -/
theorem Classifier.watch_fst : ∃ k0 m, (c.watch p v k).1 =
    { (c.hookDecision p v k).1 with breakStart := k0, bridge := m } := by
  unfold Classifier.watch
  dsimp only
  split
  · exact ⟨none, none, rfl⟩
  · exact ⟨_, _, rfl⟩

/-- R45: a run that reaches D confirms the raw state. -/
theorem Classifier.hookDecision_of_reached (hne : c.rawAfter p v ≠ c.confirmed) (hd : p.d ≤ c.runCount + 1) :
    ∃ k0 m0 m, (c.hookDecision p v k).1 = { c with
      raw := c.rawAfter p v, confirmed := c.rawAfter p v, runCount := 0, runStart := runStartAt c k
      breakStart := k0, makeStart := m0, bridge := m } := by
  cases hraw : c.rawAfter p v with
  | opened =>
    have hc : c.confirmed = .closed := by
      cases hc : c.confirmed <;> simp [hraw, hc] at hne ⊢
    rw [Classifier.hookDecision_of_opens hraw hc hd]
    exact ⟨_, _, _, rfl⟩
  | closed =>
    have hc : c.confirmed = .opened := by
      cases hc : c.confirmed <;> simp [hraw, hc] at hne ⊢
    rw [Classifier.hookDecision_of_closes hraw hc hd, Classifier.confirmClose_eq]
    exact ⟨_, _, _, rfl⟩

/-- R38, R45: the raw state, the confirmed state and the run after a sample with hook decisions. -/
theorem Classifier.watch_run : let c' := (c.watch p v k).1
    c'.raw = c.rawAfter p v ∧
    (c.rawAfter p v = c.confirmed → c'.confirmed = c.confirmed ∧ c'.runCount = 0) ∧
    (c.rawAfter p v ≠ c.confirmed → c'.runStart = runStartAt c k ∧
      (p.d ≤ c.runCount + 1 → c'.confirmed = c.rawAfter p v ∧ c'.runCount = 0) ∧
      (c.runCount + 1 < p.d → c'.confirmed = c.confirmed ∧ c'.runCount = c.runCount + 1)) := by
  obtain ⟨k0, m, hw⟩ := c.watch_fst p v k
  rw [hw]
  by_cases hraw : c.rawAfter p v = c.confirmed
  · rw [Classifier.hookDecision_of_agrees hraw]
    exact ⟨hraw.symm, fun _ => ⟨rfl, rfl⟩, fun hne => absurd hraw hne⟩
  · by_cases hd : p.d ≤ c.runCount + 1
    · obtain ⟨_, _, _, hrun⟩ := c.hookDecision_of_reached p v k hraw hd
      rw [hrun]
      exact ⟨rfl, fun h => absurd h hraw, fun _ => ⟨rfl, fun _ => ⟨rfl, rfl⟩,
        fun hlt => absurd hd (not_le.2 hlt)⟩⟩
    · rw [Classifier.hookDecision_of_short rfl hraw (not_le.1 hd)]
      exact ⟨rfl, fun h => absurd h hraw, fun _ => ⟨rfl, fun h => absurd h hd, fun _ => ⟨rfl, rfl⟩⟩⟩

end

end Sys2Proof.Machine
end

section
/-! PROOFS. O30, O33: the raw hook state and the debounce run. -/

namespace Sys2Proof.Machine

open Sys2Proof.Safety

/-- R37: with an installed profile the open threshold is at least 4 below the close threshold, and both are
bytes. -/
theorem thresholds_of_installed {s : State} {n : LineNo} (hp : Installed (s.profileOf n)) :
    8 ≤ closeAt s n ∧ closeAt s n ≤ 255 ∧ 4 ≤ openAt s n ∧ openAt s n + 4 ≤ closeAt s n := by
  obtain ⟨-, -, -, -, -, -, -, -, -, -, ⟨hmc, -⟩, ⟨hmo, -⟩, -⟩ := hp
  unfold openAt openThreshold closeAt closeThreshold
  omega

/-- R39: in burst mode, inside the window and in OUT OF SERVICE the raw state is not judged. -/
theorem Classifier.stage2_raw (c : Classifier) {m : Mode} (p : Profile) (v : Nat) (k : BitVec 32)
    (hm : m = .off ∨ m = .burst ∨ m = .transient) : (c.stage2 m p v k).1.raw = c.raw := by
  rcases hm with rfl | rfl | rfl
  · rfl
  · simp only [Classifier.stage2, Classifier.tripWatch]
    split
    · split <;> rfl
    · rfl
  · rfl

/-- R38: after a sample with hook decisions the raw state is the judged one. -/
theorem arrival_raw {s : State} {n : LineNo} (hs : Sampled s n) (hh : Hooked s n) (a : Option Byte) :
    ((s.arrival n a).line n).cls.raw = (s.line n).cls.rawAfter (s.profileOf n) (sampleOf a) := by
  obtain ⟨b, x, hcls⟩ := arrival_cls_of_hooked hs hh a
  obtain ⟨hraw, -⟩ := (s.line n).cls.watch_run (s.profileOf n) (sampleOf a) ((s.line n).sampleIndex + 1)
  rw [hcls]
  exact hraw

/-- R46: a sample in the ignore mode keeps the raw state while the line stays in its state. -/
theorem arrival_raw_of_ignore {s : State} {n : LineNo} (hs : Sampled s n) (hm : s.modeOf n = .ignore)
    {a : Option Byte} (hst : (s.arrival n a).stateOf n = s.stateOf n) :
    ((s.arrival n a).line n).cls.raw = (s.line n).cls.raw := by
  obtain ⟨⟨x, hx⟩, hstate, -⟩ := stages_line (s.delivered n) n (sampleOf a)
  rw [arrival_of_sampled hs] at hst ⊢
  rw [hx, afterStage3_cls_of_ignore (by simpa using hm) _ (by rw [← hstate, hst, delivered_stateOf]),
    delivered_line]

/-- Settles O30: the raw state is `Classifier.rawAfter` where the hook is judged, and stands elsewhere. -/
theorem rawHookHasHysteresis : Obligations.RawHookHasHysteresis := by
  refine ⟨fun s n hp _ => ⟨rfl, rfl, thresholds_of_installed hp⟩,
    fun n a s hs => ⟨_, rfl, ?_, ?_, ?_, ?_, ?_⟩⟩
  · intro hh hclose
    rw [arrival_raw hs hh, rawAfter_eq, if_pos hclose]
  · intro hh hlow hopen
    rw [arrival_raw hs hh, rawAfter_eq, if_neg (not_le.2 hlow), if_pos hopen]
  · intro hh hopen hlow
    rw [arrival_raw hs hh, rawAfter_eq, if_neg (not_le.2 hlow), if_neg (not_le.2 hopen)]
  · intro hm
    obtain ⟨b, x, hcls⟩ := arrival_cls hs (by rcases hm with h | h | h <;> simp [h]) a
    rw [hcls, delivered_classified]
    exact Classifier.stage2_raw _ _ _ _ hm
  · exact fun hm hst => arrival_raw_of_ignore hs hm hst

/-- Settles O33: the later stages leave the run that `Classifier.watch_run` tells. -/
theorem debounceConfirmsAtD : Obligations.DebounceConfirmsAtD := by
  intro n a s hs hh
  obtain ⟨b, x, hcls⟩ := arrival_cls_of_hooked hs hh a
  obtain ⟨hraw, hagrees, hdiffers⟩ :=
    (s.line n).cls.watch_run (s.profileOf n) (sampleOf a) ((s.line n).sampleIndex + 1)
  refine ⟨_, rfl, ?_⟩
  rw [hcls]
  dsimp only
  rw [hraw]
  exact ⟨hagrees, hdiffers⟩

end Sys2Proof.Machine
end

section
/-! PROOFS. O31, O32: the end of a learning, and the baseline. -/

namespace Sys2Proof.Machine

open Sys2Proof.Safety

/-! ### A sample in LEARNING (R43, R44) -/

/-- R43: each of the first seven samples is counted, and lowers the minimum. -/
theorem Classifier.learnSample_of_early {c : Classifier} (h : c.learnCount < 7) (p : Profile) (v : Nat) :
    c.learnSample p v =
      ({ c with learnCount := c.learnCount + 1, learnMin := min c.learnMin v }, .nothing) := by
  have hearly : ¬Config.eightSamples ≤ c.learnCount + 1 := not_le.2 (Nat.succ_lt_succ h)
  exact if_neg hearly

/-- R43: the eighth sample ends the learning. -/
theorem Classifier.learnSample_of_eighth {c : Classifier} (h : 7 ≤ c.learnCount) (p : Profile) (v : Nat) :
    c.learnSample p v =
      ({ c with
          learnCount := c.learnCount + 1, learnMin := min c.learnMin v
          confirmed := .opened, runCount := 0, tripCount := 0
          baseline := if min c.learnMin v ≤ p.ll then 16 * min c.learnMin v else c.baseline
          raw := if min c.learnMin v ≤ p.ll then .opened else .closed },
        { HandOn.nothing with event := some .learned }) := by
  have heighth : Config.eightSamples ≤ c.learnCount + 1 := Nat.succ_le_succ h
  unfold Classifier.learnSample
  dsimp only
  rw [if_pos heighth]
  split <;> rfl

section

variable {s : State} {n : LineNo} {v : Nat} {a : Option Byte} {c : Classifier} {h : HandOn}

theorem modeOf_of_learning (hst : s.stateOf n = .learning) : s.modeOf n = .learn :=
  Line.mode_of_learning _ hst

theorem classified_of_learning (hst : s.stateOf n = .learning) (v : Nat) :
    (s.delivered n).classified n v = (s.line n).cls.learnSample (s.profileOf n) v := by
  rw [delivered_classified, modeOf_of_learning hst]
  rfl

/-- R39, R43: in learn mode the line's event is acted on, and stage 4 does nothing. -/
theorem afterStage4_of_learning (hst : s.stateOf n = .learning)
    (hclass : (s.delivered n).classified n v = (c, h)) (hclear : h.clear = none) (helapsed : h.elapsed = none)
    (hdue : (((s.delivered n).afterStage2 n v).takeEvent n ((s.delivered n).arrivalInstant n)
      h.event).deadlineDue n = none) :
    (s.delivered n).afterStage4 n v = ((s.delivered n).afterStage2 n v).takeEvent n
      ((s.delivered n).arrivalInstant n) h.event := by
  have hm : (s.delivered n).modeOf n = .learn := (delivered_modeOf s n).trans (modeOf_of_learning hst)
  have hitems : (s.delivered n).afterItems n v = ((s.delivered n).afterStage2 n v).takeEvent n
      ((s.delivered n).arrivalInstant n) h.event := by
    simp only [State.afterItems, hm, State.afterElapsed, State.afterClear, State.afterEvent, State.handOn,
      hclass, hclear, helapsed, State.takeClear, State.takeElapsed]
  simp only [State.afterStage4, hm, reduceCtorEq, if_false, State.afterStage3]
  rw [hitems, judgeDeadline_of_not_due hdue]

theorem checksLeakage_of_learning (hst : s.stateOf n = .learning)
    (hclass : (s.delivered n).classified n v = (c, h)) :
    (s.delivered n).checksLeakage n v = decide (h.event = some .learned) := by
  simp only [State.checksLeakage, delivered_modeOf, modeOf_of_learning hst, State.handOn, hclass]

/-- R43: a sample of LEARNING that is not the eighth. -/
theorem arrival_of_early (hs : Sampled s n) (hst : s.stateOf n = .learning)
    (hd : (s.line n).sup.deadline = none) (hcount : (s.line n).cls.learnCount < 7) (a : Option Byte) :
    (s.arrival n a).line n = sampledLine s n { (s.line n).cls with
      learnCount := (s.line n).cls.learnCount + 1
      learnMin := min (s.line n).cls.learnMin (sampleOf a) } := by
  have hclass := (classified_of_learning hst (sampleOf a)).trans
    (Classifier.learnSample_of_early hcount (s.profileOf n) (sampleOf a))
  have hdue := (alike_afterStage2 s n (sampleOf a)).deadlineDue.trans (deadlineDue_of_none hd)
  rw [arrival_of_sampled hs, State.stages, checksLeakage_of_learning hst hclass]
  change (State.afterStage4 _ n _).line n = _
  rw [afterStage4_of_learning hst hclass rfl rfl hdue]
  exact afterStage2_line hclass

/-- R43, R44, R71: the eighth sample takes the line to IDLE, and the leakage check follows. -/
theorem arrival_of_learned (hs : Sampled s n) (hst : s.stateOf n = .learning)
    (hclass : (s.delivered n).classified n (sampleOf a) =
      (c, { HandOn.nothing with event := some .learned })) :
    (s.arrival n a).line n =
        leakChecked s (s.profileOf n).ll ((sampledLine s n c).enter .idle .none) ∧
      (s.arrival n a).sched = s.sched := by
  have halike := alike_afterStage2 s n (sampleOf a)
  have hline : (((s.delivered n).afterStage2 n (sampleOf a)).itemLearned n).line n =
      (sampledLine s n c).enter .idle .none := by
    rw [State.itemLearned, State.updLine_line_same, afterStage2_line hclass]
  have h4 : (s.delivered n).afterStage4 n (sampleOf a) =
      ((s.delivered n).afterStage2 n (sampleOf a)).itemLearned n :=
    afterStage4_of_learning hst hclass rfl rfl
      (deadlineDue_of_none (by rw [State.takeEvent, hline, Line.enter_sup_deadline]))
  have hprofile : (((s.delivered n).afterStage2 n (sampleOf a)).itemLearned n).profileOf n =
      s.profileOf n := by
    rw [← halike.profileOf]
    simp [State.profileOf, State.itemLearned]
  have harrival : s.arrival n a =
      (((s.delivered n).afterStage2 n (sampleOf a)).itemLearned n).checkLeakage n := by
    rw [arrival_of_sampled hs, State.stages, checksLeakage_of_learning hst hclass, h4]
    rfl
  rw [harrival, checkLeakage_line, checkLeakage_sched, hline, hprofile]
  exact ⟨leakChecked_congr halike.control halike.shelfTime _ _, halike.sched⟩

end

/-- Settles O32: the first seven samples by `arrival_of_early`, the eighth by `arrival_of_learned`. -/
theorem learningEndsAtEighthSample : Obligations.LearningEndsAtEighthSample := by
  intro n a s hs hst hd
  refine ⟨fun hcount => ⟨_, rfl, arrival_of_early hs hst hd hcount a⟩, fun hcount => ?_⟩
  have hclass := (classified_of_learning hst (sampleOf a)).trans
    (Classifier.learnSample_of_eighth hcount.ge (s.profileOf n) (sampleOf a))
  have hexec : exec (.learningEnd n a) s = .next (s.arrival n a) :=
    congrArg Host.Outcome.next (arrivalIf_true (bringsEvent_eq_true hs hclass rfl rfl))
  obtain ⟨hline, hsched⟩ := arrival_of_learned hs hst hclass
  rw [hcount] at hline
  exact ⟨_, hexec, hline, hsched⟩

/-! ### The baseline (R41) -/

/-- R41: the clamp of the update changes nothing, and the step is a sixteenth of the distance, truncated. -/
theorem baselineStep_eq {b v : Nat} (hb : b ≤ 4080) (hv : v ≤ 255) : baselineStep b v =
    if b ≤ 16 * v then b + (16 * v - b) / 16 else b - (b - 16 * v) / 16 := by
  unfold baselineStep
  dsimp only
  split
  · next h =>
    rw [Int.tdiv_eq_ediv_of_nonneg (by omega)]
    omega
  · next h =>
    have hneg : (16 * (v : Int) - b).tdiv 16 = -(((b : Int) - 16 * v) / 16) := by
      rw [← Int.neg_sub, Int.neg_tdiv, Int.tdiv_eq_ediv_of_nonneg (by omega)]
    rw [hneg]
    omega

theorem sampleOf_le (a : Option Byte) : sampleOf a ≤ 255 := Nat.le_of_lt_succ (a.getD 0).isLt

/-- R39: the mode in which the baseline is updated. -/
theorem modeOf_watchUpdate_iff {s : State} {n : LineNo} : s.modeOf n = .watchUpdate ↔
    s.stateOf n = .idle ∧ (s.line n).inWindow (s.arrivalInstant n) = false := by
  constructor
  · intro hm
    have hst : (s.line n).sup.state = .idle := Line.idle_of_mode hm
    refine ⟨hst, ?_⟩
    simpa [State.modeOf, Line.mode, hst] using hm
  · rintro ⟨hst, hw⟩
    have hst' : (s.line n).sup.state = .idle := hst
    simp [State.modeOf, Line.mode, hst', hw]

/-- R41: but for the end of a learning, stage 2 leaves the baseline. -/
theorem Classifier.stage2_baseline (c : Classifier) {m : Mode} (p : Profile) (v : Nat) (k : BitVec 32)
    (hm : m ≠ .learn) : (c.stage2 m p v k).1.baseline = c.baseline := by
  cases m with
  | watchUpdate | watch => exact c.watch_baseline p v k
  | burst =>
    simp only [Classifier.stage2, Classifier.tripWatch]
    split
    · split <;> rfl
    · rfl
  | learn => exact absurd rfl hm
  | transient | off | ignore => rfl

/-- R43: a learning that ends with its minimum at most the leakage limit sets the baseline. -/
theorem Classifier.learnSample_baseline (c : Classifier) (p : Profile) (v : Nat) :
    (c.learnSample p v).1.baseline =
      if 7 ≤ c.learnCount ∧ min c.learnMin v ≤ p.ll then 16 * min c.learnMin v else c.baseline := by
  by_cases hcount : 7 ≤ c.learnCount
  · rw [Classifier.learnSample_of_eighth hcount]
    simp only [hcount, true_and]
  · rw [Classifier.learnSample_of_early (not_le.1 hcount)]
    simp only [hcount, false_and, if_false]

/-- R41, R43: the baseline before stage 4. -/
theorem afterStage3_baseline (s : State) (n : LineNo) (v : Nat) :
    (((s.delivered n).afterStage3 n v).line n).cls.baseline =
      if s.stateOf n = .learning ∧ 7 ≤ (s.line n).cls.learnCount ∧
        min (s.line n).cls.learnMin v ≤ (s.profileOf n).ll
      then 16 * min (s.line n).cls.learnMin v else (s.line n).cls.baseline := by
  by_cases hst : s.stateOf n = .learning
  · rw [afterStage3_cls (by simp [modeOf_of_learning hst]), classified_of_learning hst,
      Classifier.learnSample_baseline]
    simp only [hst, true_and]
  · rw [if_neg fun h => hst h.1]
    by_cases hm : s.modeOf n = .ignore
    · rw [State.afterStage3, judgeDeadline_cls, afterItems_of_ignore (by simpa using hm),
        (ignoredSample_line _ n _ v).1, delivered_line]
    · rw [afterStage3_cls (by simpa using hm), delivered_classified]
      exact Classifier.stage2_baseline _ _ _ _ fun h => hst (Line.learning_of_mode h)

/-- R41, R43: the baseline after a sample arrival. -/
theorem arrival_baseline {s : State} {n : LineNo} (hs : Sampled s n) (a : Option Byte) :
    let b := (((s.delivered n).afterStage3 n (sampleOf a)).line n).cls.baseline
    ((s.arrival n a).line n).cls.baseline =
      if s.modeOf n = .watchUpdate ∧ (s.arrival n a).stateOf n = .idle ∧
        ((s.arrival n a).line n).cls.confirmed = .opened ∧ sampleOf a ≤ closeAt s n
      then baselineStep b (sampleOf a) else b := by
  obtain ⟨⟨x, hx⟩, hstate, -⟩ := stages_line (s.delivered n) n (sampleOf a)
  rw [arrival_of_sampled hs, hx, hstate]
  simp only [trackedBaseline, delivered_modeOf, delivered_closeAt]

/-- Settles O31: `arrival_baseline`, with the baseline that stage 4 finds by `afterStage3_baseline`. -/
theorem baselineTracksIdleSamples : Obligations.BaselineTracksIdleSamples := by
  intro n a s hs hb
  have hv := sampleOf_le a
  have harrival := arrival_baseline hs a
  rw [afterStage3_baseline s n (sampleOf a)] at harrival
  refine ⟨_, rfl, harrival.trans ?_, ?_⟩
  · simp only [modeOf_watchUpdate_iff, and_assoc]
    refine if_ctx_congr Iff.rfl (fun h => ?_) fun _ => rfl
    rw [if_neg (by simp [h.1]), baselineStep_eq hb hv]
  · rw [harrival]
    split
    · exact baselineStep_le _ _
    · split <;> omega

end Sys2Proof.Machine
end

section
/-! PROOFS. O34, O35: a confirmed open and a confirmed close. -/

namespace Sys2Proof.Machine

open Sys2Proof.Safety

section

variable {s : State} {n : LineNo} {v : Nat} {c : Classifier} {h : HandOn}

/-! ### A confirmed open (R45, R52, R73) -/

/-- R73: a confirmed open ends a seizure, and no deadline comes of it. -/
theorem itemOpen_stateOf (s : State) (n : LineNo) :
    (s.itemOpen n).stateOf n = if s.stateOf n = .seizing then .idle else s.stateOf n := by
  unfold State.itemOpen
  split
  · next hst =>
    rw [if_pos hst]
    simp [State.stateOf]
  · next hst => rw [if_neg hst]

theorem itemOpen_sched (s : State) (n : LineNo) : (s.itemOpen n).sched = s.sched := by
  unfold State.itemOpen
  split <;> rfl

theorem itemOpen_deadlineDue (hdue : s.deadlineDue n = none) : (s.itemOpen n).deadlineDue n = none := by
  unfold State.itemOpen
  split
  · exact deadlineDue_of_none (by simp)
  · exact hdue

/-- R53, R68: a sample that confirms an open, declares no clear and hands on no make. -/
theorem afterStage3_of_opens (hh : Hooked s n) (hclass : (s.delivered n).classified n v = (c, h))
    (hevent : h.event = some .opened) (hclear : h.clear = none) (helapsed : ∀ ms, h.elapsed ≠ some (.makeFor ms))
    (hdue : s.deadlineDue n = none) :
    (s.delivered n).afterStage3 n v = ((s.delivered n).afterStage2 n v).itemOpen n := by
  have hitems : (s.delivered n).afterElapsed n v = ((s.delivered n).afterStage2 n v).itemOpen n := by
    simp only [State.afterElapsed, State.afterClear, State.afterEvent, State.handOn, hclass, hevent, hclear,
      State.takeClear, State.takeEvent]
    unfold State.takeElapsed
    split
    · next ms he => exact absurd he (helapsed ms)
    · rfl
    · rfl
  have hafter : (s.delivered n).afterItems n v = ((s.delivered n).afterStage2 n v).itemOpen n := by
    unfold State.afterItems
    rw [delivered_modeOf]
    rcases hh with hm | hm <;> rw [hm] <;> exact hitems
  rw [State.afterStage3, hafter]
  exact judgeDeadline_of_not_due
    (itemOpen_deadlineDue ((alike_afterStage2 s n v).deadlineDue.trans hdue))

/-- R45, R52: what the classifier makes of a sample that confirms an open whose break has not outlasted FLmax. -/
theorem classified_of_opens {k0 : BitVec 32} (hh : Hooked s n)
    (hstart : runStartAt (s.line n).cls ((s.line n).sampleIndex + 1) = some k0)
    (hc : (s.line n).cls.confirmed = .closed) (hshows : ¬ShowsClosed s n v)
    (hd : (s.profileOf n).d ≤ (s.line n).cls.runCount + 1)
    (hshort : elapsedAt k0 ((s.line n).sampleIndex + 1) ≤ (s.profileOf n).flMax) :
    (s.delivered n).classified n v =
      (((s.line n).cls.running .opened ((s.line n).sampleIndex + 1)).confirmOpen,
        { event := some .opened, clear := none
          elapsed := some (.breakFor (elapsedAt k0 ((s.line n).sampleIndex + 1))) }) := by
  have helapsed : (((s.line n).cls.running .opened ((s.line n).sampleIndex + 1)).confirmOpen).elapsed
      ((s.line n).sampleIndex + 1) = some (.breakFor (elapsedAt k0 ((s.line n).sampleIndex + 1))) := by
    rw [Classifier.elapsed_of_bothOpened rfl rfl]
    exact congrArg (Option.map _) hstart
  have hclear : clearDeclared (s.profileOf n)
      (some (.breakFor (elapsedAt k0 ((s.line n).sampleIndex + 1)))) = none := if_neg (not_lt.2 hshort)
  rw [classified_of_hooked hh, Classifier.watch_of_no_clear
    (Classifier.hookDecision_of_opens (rawAfter_of_not_showsClosed hshows) hc hd) (by rw [helapsed, hclear]),
    helapsed]

end

/-- Settles O34: stage 2 by `classified_of_opens`, the Supervisor by `afterStage3_of_opens`. -/
theorem confirmedOpenStartsBreak : Obligations.ConfirmedOpenStartsBreak := by
  intro n a s k0 hstart hs hh hc hshows hd hshort hdue
  have hclass := classified_of_opens hh hstart hc hshows hd hshort
  have hexec : exec (.confirmedOpen n a) s = .next (s.arrival n a) :=
    congrArg Host.Outcome.next (arrivalIf_true (bringsEvent_eq_true hs hclass rfl rfl))
  obtain ⟨b, x, hcls⟩ := arrival_cls hs (Watched.ne_ignore (.inr hh)) a
  obtain ⟨-, hstate, hsched⟩ := stages_line (s.delivered n) n (sampleOf a)
  have halike := alike_afterStage2 s n (sampleOf a)
  rw [afterStage3_of_opens hh hclass rfl rfl (by simp) hdue] at hstate hsched
  rw [itemOpen_stateOf, halike.stateOf, ← arrival_of_sampled hs] at hstate
  rw [itemOpen_sched, halike.sched, ← arrival_of_sampled hs] at hsched
  refine ⟨_, hexec, ?_⟩
  rw [hcls, hclass]
  exact ⟨rfl, rfl, rfl, hstart, rfl, rfl, hstate, hsched⟩

/-! ### A confirmed close (R45, R52, R55 to R57) -/

section

variable {s : State} {n : LineNo} {v : Nat}

/-- R45, R52: what the classifier makes of a sample that confirms a close. -/
theorem classified_of_closes (hh : Hooked s n) (hc : (s.line n).cls.confirmed = .opened)
    (hshows : ShowsClosed s n v) (hd : (s.profileOf n).d ≤ (s.line n).cls.runCount + 1) :
    let c := ((s.line n).cls.running .closed ((s.line n).sampleIndex + 1))
    (s.delivered n).classified n v = (c.confirmClose (s.profileOf n),
      { event := some (.closed (c.finishedBreak (s.profileOf n))), clear := none
        elapsed := (c.confirmClose (s.profileOf n)).elapsed ((s.line n).sampleIndex + 1) }) := by
  rw [classified_of_hooked hh]
  refine Classifier.watch_of_no_clear
    (Classifier.hookDecision_of_closes (rawAfter_of_showsClosed hshows) hc hd) ?_
  rw [Option.eq_none_iff_forall_ne_some]
  intro ms hms
  obtain ⟨b, hb⟩ := clearDeclared_some hms
  exact Classifier.elapsed_of_closed (Classifier.confirmClose_confirmed _ _) _ b hb

/-- The make start and the finished break of a close confirmed with the run start m. -/
theorem closesWith_of_runStart {m : BitVec 32} {len : Option Nat}
    (hstart : runStartAt (s.line n).cls ((s.line n).sampleIndex + 1) = some m)
    (hlen : len = (s.line n).cls.breakStart.map fun k0 => 2 * (m - k0).toNat) :
    ClosesWith s n (if len.any (fun L => decide (L < (s.profileOf n).pbMin)) = true
      then (s.line n).cls.bridge.getD m else m) len := by
  unfold ClosesWith
  rw [hstart]
  exact ⟨hlen, rfl⟩

/-- R45, R52, R55 to R57: the classifier after a close confirmed with this make start and finished break. -/
theorem confirmClose_of_closesWith {m0 : BitVec 32} {len : Option Nat} (h : ClosesWith s n m0 len) :
    ((s.line n).cls.running .closed ((s.line n).sampleIndex + 1)).confirmClose (s.profileOf n) =
      { (s.line n).cls.running .closed ((s.line n).sampleIndex + 1) with
        confirmed := .closed, runCount := 0, makeStart := some m0
        breakStart := if (classedBreak s n len).map Prod.fst = some .clear then none
          else (s.line n).cls.breakStart
        bridge := if (classedBreak s n len).map Prod.fst = some .clear then none
          else (s.line n).cls.bridge } := by
  rw [Classifier.confirmClose_eq, finishedBreak_eq h, makeStart_eq h]
  rfl

end

/-- Settles O35: the classifier by `confirmClose_of_closesWith`, which the later stages leave. -/
theorem confirmedCloseEndsBreak : Obligations.ConfirmedCloseEndsBreak := by
  intro n a s m hstart hs hh hc hshows hd
  have hclass := classified_of_closes hh hc hshows hd
  have hexec : exec (.confirmedClose n a) s = .next (s.arrival n a) :=
    congrArg Host.Outcome.next (arrivalIf_true (bringsEvent_eq_true hs hclass rfl rfl))
  obtain ⟨b, x, hcls⟩ := arrival_cls hs (Watched.ne_ignore (.inr hh)) a
  rw [hclass, confirmClose_of_closesWith (closesWith_of_runStart hstart rfl)] at hcls
  refine ⟨_, hexec, ?_⟩
  rw [hcls]
  refine ⟨rfl, rfl, rfl, fun k0 hk => ⟨fun hlow => ?_, fun hmin => ?_⟩, fun hk => ?_,
    fun k0 hk hp => ⟨fun hlong => ?_, fun hshort => ?_⟩⟩
  · simp only [hk, Option.map_some, Option.any_some, hlow, decide_true, if_true]
  · simp only [hk, Option.map_some, Option.any_some, not_lt.2 hmin, decide_false, Bool.false_eq_true, if_false]
  · simp only [hk, Option.map_none, Option.any_none, Bool.false_eq_true, if_false]
  · simp only [classedBreak_clear_iff hp, outlasts, hk, Option.map_some, Option.any_some, hlong, decide_true,
      if_true, and_self]
  · simp only [classedBreak_clear_iff hp, outlasts, hk, Option.map_some, Option.any_some, not_lt.2 hshort,
      decide_false, Bool.false_eq_true, if_false, and_self]

end Sys2Proof.Machine
end

section
/-! PROOFS. O40: a break that outlasts FLmax, at a sample of the break and at the close that finishes it. -/

namespace Sys2Proof.Machine

open Sys2Proof.Safety

/-! ### Stage 2 of a break that outlasts FLmax (R54, R55) -/

/-- R54, R55: where the hook decision declares a clear, k0 and the marker go. -/
theorem Classifier.watch_of_clear {c c' : Classifier} {p : Profile} {v ms : Nat} {k : BitVec 32}
    {e : Option LineEvent} (h : c.hookDecision p v k = (c', e))
    (hclear : clearDeclared p (c'.elapsed k) = some ms) :
    c.watch p v k = ({ c' with breakStart := none, bridge := none },
      { event := e, clear := some ms, elapsed := c'.elapsed k }) := by
  simp [Classifier.watch, h, hclear]

/-- Line n with its sample taken and the clear that its break declares, before the Supervisor acts. -/
def longBreakLine (s : State) (n : LineNo) (k0 : BitVec 32) : Line :=
  let x := openedLine s n k0
  { x with cls := { x.cls with breakStart := none, bridge := none } }

/-- Line n once the open that its sample confirms, if it confirms one, is acted on (R73). -/
def unseizedLine (s : State) (n : LineNo) (l : Line) : Line :=
  if s.stateOf n = .seizing ∧ (s.line n).cls.confirmed = .closed then stateLine l .idle .none else l

theorem unseizedLine_kept (s : State) (n : LineNo) (l : Line) :
    ((unseizedLine s n l).sup.state = .idle ∨ (unseizedLine s n l).sup.state = l.sup.state) ∧
      (unseizedLine s n l).sup.profile = l.sup.profile ∧ (unseizedLine s n l).cls = l.cls := by
  unfold unseizedLine
  split
  · exact ⟨.inl rfl, rfl, rfl⟩
  · exact ⟨.inr rfl, rfl, rfl⟩

section

variable {s t : State} {n : LineNo} {v : Nat} {a : Option Byte} {k0 : BitVec 32}

/-- R45, R52: what the hook decision makes of a break sample. -/
theorem hookDecision_of_breakAt (h : BreakAt s n v k0) :
    (s.line n).cls.hookDecision (s.profileOf n) v ((s.line n).sampleIndex + 1) =
      ((openedLine s n k0).cls, if (s.line n).cls.confirmed = .closed then some .opened else none) := by
  obtain ⟨-, -, hshows, ⟨hc, hk⟩ | ⟨hc, hd, hk⟩⟩ := h
  · rw [Classifier.hookDecision_of_agrees ((rawAfter_of_not_showsClosed hshows).trans hc.symm)]
    simp only [openedLine, hc, hk, if_true, reduceCtorEq, if_false]
  · rw [Classifier.hookDecision_of_opens (rawAfter_of_not_showsClosed hshows) hc hd]
    simp only [openedLine, Classifier.running, Classifier.confirmOpen, hc, hk, reduceCtorEq, if_true,
      if_false]

/-- R54, R55, R59: what stage 2 makes of a break sample that outlasts FLmax. -/
theorem classified_of_longBreak (h : BreakAt s n v k0)
    (hlong : (s.profileOf n).flMax < breakElapsed s n k0) :
    (s.delivered n).classified n v = ((longBreakLine s n k0).cls,
      { event := if (s.line n).cls.confirmed = .closed then some .opened else none
        clear := some (breakElapsed s n k0), elapsed := some (.breakFor (breakElapsed s n k0)) }) := by
  have ⟨_, hh, _⟩ := h
  have helapsed : (openedLine s n k0).cls.elapsed ((s.line n).sampleIndex + 1) =
      some (.breakFor (breakElapsed s n k0)) := by
    rw [Classifier.elapsed_of_bothOpened rfl rfl, breakElapsed, ← elapsedAt_eq]
    rfl
  have hclear : clearDeclared (s.profileOf n)
      ((openedLine s n k0).cls.elapsed ((s.line n).sampleIndex + 1)) = some (breakElapsed s n k0) := by
    rw [helapsed]
    exact if_pos hlong
  rw [classified_of_hooked hh, Classifier.watch_of_clear (hookDecision_of_breakAt h) hclear, helapsed]
  rfl

/-! ### The Supervisor at a clear (R68, R74, R78 to R81) -/

theorem itemClear_sched (t : State) (n : LineNo) : (t.itemClear n).sched = t.sched := by
  unfold State.itemClear
  split <;> rfl

theorem clearLine_line (t : State) (n : LineNo) : (t.clearLine n).line n =
    reported t (stateLine (t.line n) .idle .none) (.clear (t.stateOf n)) := by
  rw [State.clearLine, State.report_line_same, State.updLine_line_same]
  rfl

/-- R54, R78: a clear in the six states that act on it, with the digit discarded in DIALING. -/
theorem itemClear_line (h : Calling t n) : (t.itemClear n).line n = clearedLine t n (t.line n) := by
  have hclear (hne : t.stateOf n ≠ .dialing) : (t.clearLine n).line n = clearedLine t n (t.line n) := by
    simp only [clearLine_line, clearedLine, hne, if_false]
  unfold State.itemClear
  rcases h with hs | hs | hs | hs | hs | hs <;> simp only [hs]
  case inr.inl =>
    have hstate : (t.updLine n Line.clearDigits).stateOf n = t.stateOf n := by
      simp [State.stateOf, Line.clearDigits]
    simp only [State.clearDialing, clearLine_line, State.updLine_line_same, hstate, clearedLine, hs, if_true]
    rfl
  all_goals exact hclear (by simp [hs])

theorem Alike.clearedLine_eq (h : Alike n s t) (l : Line) : clearedLine t n l = clearedLine s n l := by
  simp only [clearedLine, reported, h.stateOf, h.control, h.shelfTime]

theorem clearedLine_sup (s : State) (n : LineNo) (l : Line) :
    (clearedLine s n l).sup.state = .idle ∧ (clearedLine s n l).sup.deadline = none ∧
      (clearedLine s n l).sup.profile = l.sup.profile := by
  unfold clearedLine
  dsimp only
  split <;> exact ⟨rfl, rfl, rfl⟩

theorem ne_idle_seizing_of_calling (h : Calling s n) : s.stateOf n ≠ .idle ∧ s.stateOf n ≠ .seizing := by
  rcases h with h | h | h | h | h | h <;> simp [h]

theorem Alike.calling (h : Alike n s t) (hc : Calling s n) : Calling t n := by
  rwa [Calling, h.stateOf]

/-- R73: a confirmed open ends a seizure, and is ignored in the other states. -/
theorem itemOpen_line (t : State) (n : LineNo) : (t.itemOpen n).line n =
    if t.stateOf n = .seizing then stateLine (t.line n) .idle .none else t.line n := by
  unfold State.itemOpen
  split
  · next hs =>
    rw [if_pos hs, State.updLine_line_same]
    rfl
  · next hs => rw [if_neg hs]

/-! ### The later stages (R40, R41, R44, R67) -/

/-- R40: the arrival of a sample with hook decisions whose items leave the part as `t`, with no deadline due
there: only the baseline in IDLE and the leakage check are still to come. -/
theorem arrival_of_items (hs : Sampled s n) (hh : Hooked s n)
    (hitems : (s.delivered n).afterElapsed n (sampleOf a) = t) (hdue : t.deadlineDue n = none)
    (hprofile : (t.line n).sup.profile = (s.line n).sup.profile) :
    (s.arrival n a).sched = t.sched ∧
      (s.arrival n a).line n =
        leakChecked s (s.profileOf n).ll (withBaseline (t.line n) ((s.arrival n a).line n).cls.baseline) ∧
      (s.stateOf n ≠ .idle → ((s.arrival n a).line n).cls.baseline = (t.line n).cls.baseline) := by
  have h3 : (s.delivered n).afterStage3 n (sampleOf a) = t := by
    have hafter : (s.delivered n).afterItems n (sampleOf a) = t := by
      unfold State.afterItems
      rw [delivered_modeOf]
      rcases hh with hm | hm <;> rw [hm] <;> exact hitems
    rw [State.afterStage3, hafter, judgeDeadline_of_not_due hdue]
  have hchecks : (s.delivered n).checksLeakage n (sampleOf a) = true := by
    unfold State.checksLeakage
    rw [delivered_modeOf]
    rcases hh with hm | hm <;> rw [hm]
  have hline := afterStage4_line (s.delivered n) n (sampleOf a)
  obtain ⟨hshelf, -, -, -⟩ := (works_delivered s n).touches.trans
    (touches_afterStage4 (s.delivered n) n (sampleOf a))
  obtain ⟨⟨x, hcls⟩, -, hsched⟩ := stages_line (s.delivered n) n (sampleOf a)
  rw [← arrival_of_sampled hs, h3] at hcls hsched
  rw [h3] at hline
  refine ⟨hsched, ?_, fun hidle => ?_⟩
  · have hprof : ((s.delivered n).afterStage4 n (sampleOf a)).profileOf n = s.profileOf n := by
      simp only [State.profileOf, hline, withBaseline, hprofile, hshelf.control]
    rw [hcls, arrival_of_sampled hs, State.stages, if_pos hchecks, checkLeakage_line, hprof, hline,
      leakChecked_congr hshelf.control hshelf.shelfTime]
  · rw [hcls]
    unfold trackedBaseline
    rw [delivered_modeOf, h3, if_neg fun ⟨hm, _⟩ => hidle (Line.idle_of_mode hm)]

/-- R40, R54: a sample whose items are a clear alone, in the six states that act on it.  The clear takes the
deadline away, one that is due too. -/
theorem arrival_of_cleared {c : Classifier} {h : HandOn} (hs : Sampled s n) (hh : Hooked s n)
    (hclass : (s.delivered n).classified n (sampleOf a) = (c, h)) (hcalling : Calling s n)
    (hitems : (s.delivered n).afterElapsed n (sampleOf a) =
      ((s.delivered n).afterStage2 n (sampleOf a)).itemClear n) :
    (s.arrival n a).line n = leakChecked s (s.profileOf n).ll (clearedLine s n (sampledLine s n c)) ∧
      (s.arrival n a).sched = s.sched := by
  have halike := alike_afterStage2 s n (sampleOf a)
  have hline := itemClear_line (halike.calling hcalling)
  rw [afterStage2_line hclass, halike.clearedLine_eq] at hline
  obtain ⟨hidle, -⟩ := ne_idle_seizing_of_calling hcalling
  obtain ⟨-, hdeadline, hprofile⟩ := clearedLine_sup s n (sampledLine s n c)
  rw [← hline] at hdeadline hprofile
  obtain ⟨hsched, harrival, hbase⟩ := arrival_of_items hs hh hitems (deadlineDue_of_none hdeadline) hprofile
  rw [hbase hidle, hline] at harrival
  exact ⟨harrival, hsched.trans ((itemClear_sched _ n).trans halike.sched)⟩

/-! ### The clear during the break -/

/-- R68: the event of a break sample that outlasts FLmax is the open that it confirms, if it confirms one. -/
theorem afterEvent_of_longBreak (h : BreakAt s n v k0)
    (hlong : (s.profileOf n).flMax < breakElapsed s n k0) :
    (s.delivered n).afterEvent n v = if (s.line n).cls.confirmed = .closed
      then ((s.delivered n).afterStage2 n v).itemOpen n else (s.delivered n).afterStage2 n v := by
  rw [State.afterEvent, State.handOn, classified_of_longBreak h hlong]
  split <;> rfl

/-- R59, R68: the clear follows the event, and nothing else does. -/
theorem afterElapsed_of_longBreak (h : BreakAt s n v k0)
    (hlong : (s.profileOf n).flMax < breakElapsed s n k0) :
    (s.delivered n).afterElapsed n v = ((s.delivered n).afterEvent n v).itemClear n := by
  rw [State.afterElapsed, State.afterClear, State.handOn, classified_of_longBreak h hlong]
  rfl

theorem exec_clear_of_longBreak (h : BreakAt s n (sampleOf a) k0)
    (hlong : (s.profileOf n).flMax < breakElapsed s n k0) :
    exec (.clear n a) s = .next (s.arrival n a) := by
  have ⟨hs, _⟩ := h
  refine congrArg Host.Outcome.next (arrivalIf_true ?_)
  simp [State.bringsClear, State.handOn, classified_of_longBreak h hlong, delivers_iff.2 hs]

/-- R74, R78 to R81: the clear takes a line that is off-hook to the Supervisor to IDLE. -/
theorem arrival_of_longBreak_calling (h : BreakAt s n (sampleOf a) k0)
    (hlong : (s.profileOf n).flMax < breakElapsed s n k0) (hcalling : Calling s n) :
    (s.arrival n a).line n = leakChecked s (s.profileOf n).ll (clearedLine s n (longBreakLine s n k0)) ∧
      (s.arrival n a).sched = s.sched := by
  have ⟨hs, hh, _⟩ := h
  have hseizing : ((s.delivered n).afterStage2 n (sampleOf a)).stateOf n ≠ .seizing := by
    rw [(alike_afterStage2 s n _).stateOf]
    exact (ne_idle_seizing_of_calling hcalling).2
  refine arrival_of_cleared hs hh (classified_of_longBreak h hlong) hcalling ?_
  rw [afterElapsed_of_longBreak h hlong, afterEvent_of_longBreak h hlong, itemOpen_of_not_seizing hseizing,
    ite_self]

/-- R73: the event leaves the line as `unseizedLine` says, with no deadline due that was not due before. -/
theorem afterEvent_unseized (h : BreakAt s n v k0) (hlong : (s.profileOf n).flMax < breakElapsed s n k0)
    (hdue : s.deadlineDue n = none) :
    ((s.delivered n).afterEvent n v).line n = unseizedLine s n (longBreakLine s n k0) ∧
      ((s.delivered n).afterEvent n v).sched = s.sched ∧
      ((s.delivered n).afterEvent n v).deadlineDue n = none := by
  have halike := alike_afterStage2 s n v
  have hline := afterStage2_line (classified_of_longBreak h hlong)
  have hdue2 := halike.deadlineDue.trans hdue
  rw [afterEvent_of_longBreak h hlong]
  unfold unseizedLine
  split
  · next hc =>
    refine ⟨?_, (itemOpen_sched _ n).trans halike.sched, itemOpen_deadlineDue hdue2⟩
    rw [itemOpen_line, halike.stateOf, hline]
    simp only [hc, and_true]
    rfl
  · next hc => exact ⟨hline.trans (if_neg fun hopen => hc hopen.2).symm, halike.sched, hdue2⟩

/-- R72, R73, R115, R117: in the other states the clear is ignored, and the line stands as the event left it. -/
theorem arrival_of_longBreak_ignored (h : BreakAt s n (sampleOf a) k0)
    (hlong : (s.profileOf n).flMax < breakElapsed s n k0) (hcalling : ¬Calling s n)
    (hdue : s.deadlineDue n = none) :
    (s.arrival n a).sched = s.sched ∧
      (s.arrival n a).line n = leakChecked s (s.profileOf n).ll
        (withBaseline (unseizedLine s n (longBreakLine s n k0)) ((s.arrival n a).line n).cls.baseline) ∧
      (s.stateOf n ≠ .idle → ((s.arrival n a).line n).cls.baseline = (s.line n).cls.baseline) := by
  have ⟨hs, hh, _⟩ := h
  obtain ⟨hline, hsched, hdue'⟩ := afterEvent_unseized h hlong hdue
  have hkept := unseizedLine_kept s n (longBreakLine s n k0)
  rw [← hline] at hkept ⊢
  obtain ⟨hstate, hprofile, hcls⟩ := hkept
  have hignored : ¬Calling ((s.delivered n).afterEvent n (sampleOf a)) n := by
    rcases hstate with hst | hst
    · simp [Calling, State.stateOf, hst]
    · have hsame : ((s.delivered n).afterEvent n (sampleOf a)).stateOf n = s.stateOf n := hst
      rwa [Calling, hsame]
  have hitems := afterElapsed_of_longBreak h hlong
  rw [itemClear_of_not_calling hignored] at hitems
  obtain ⟨hsched', harrival, hbase⟩ := arrival_of_items hs hh hitems hdue' hprofile
  refine ⟨hsched'.trans hsched, harrival, fun hidle => ?_⟩
  rw [hbase hidle, hcls]
  rfl

/-! ### The clear at a close (R56; log 21) -/

/-- R56, R68: a close of class clear acts as the clear in the six states that act on one. -/
theorem itemClose_of_clear {L : Nat} (h : Calling t n) :
    t.itemClose n (some (.clear, L)) = t.itemClear n := by
  unfold State.itemClose
  rcases h with hs | hs | hs | hs | hs | hs <;> simp only [hs]

/-- R72: IDLE does not act on the make of the sample that confirms its close, nor on any break. -/
theorem takeElapsed_of_idle (h : t.stateOf n = .idle) (e : Option Elapsed) :
    t.takeElapsed n true e = t := by
  match e with
  | none | some (.breakFor _) => rfl
  | some (.makeFor ms) => simp only [State.takeElapsed, State.itemMake, h, if_true]

theorem itemClear_stateOf (h : Calling t n) : (t.itemClear n).stateOf n = .idle := by
  obtain ⟨hidle, -⟩ := clearedLine_sup t n (t.line n)
  rwa [State.stateOf, itemClear_line h]

/-- R45, R56: a close that finishes a break of class clear takes such a line to IDLE, where the same sample's
make does not seize it. -/
theorem arrival_of_longClose {m0 : BitVec 32} {L : Nat} (h : MakeAt s n (sampleOf a) m0 (some L))
    (hlong : (s.profileOf n).flMax < L) (hcalling : Calling s n) :
    exec (.confirmedClose n a) s = .next (s.arrival n a) ∧
      (s.arrival n a).line n =
        leakChecked s (s.profileOf n).ll (clearedLine s n (closedLine s n m0 (some L))) ∧
      (s.arrival n a).sched = s.sched := by
  obtain ⟨hs, hp, hh, hshows, ⟨-, -, ⟨⟩⟩ | ⟨hc, hd, hw⟩⟩ := h
  have hclass := classified_of_closes hh hc hshows hd
  have hbreak : classedBreak s n (some L) = some (.clear, L) := by
    rw [classedBreak, Option.map_some, (breakClass_clear_iff hp).2 hlong]
  dsimp only at hclass
  rw [finishedBreak_eq hw, hbreak] at hclass
  have hstage2 := (alike_afterStage2 s n (sampleOf a)).calling hcalling
  have hitems : (s.delivered n).afterElapsed n (sampleOf a) =
      ((s.delivered n).afterStage2 n (sampleOf a)).itemClear n := by
    rw [State.afterElapsed, State.afterClear, State.afterEvent, State.handOn, hclass]
    simp only [State.takeEvent, State.takeClear, itemClose_of_clear hstage2]
    exact takeElapsed_of_idle (itemClear_stateOf hstage2) _
  rw [closedLine_eq hp hc hw]
  exact ⟨congrArg Host.Outcome.next (arrivalIf_true (bringsEvent_eq_true hs hclass rfl rfl)),
    arrival_of_cleared hs hh hclass hcalling hitems⟩

end

/-- Settles O40: during the break by `arrival_of_longBreak_calling` and `arrival_of_longBreak_ignored`, at the close
by `arrival_of_longClose`. -/
theorem longBreakIsClear : Obligations.LongBreakIsClear := by
  refine ⟨fun n a s k0 h hlong => ⟨fun hcalling => ?_, fun hcalling hdue => ?_⟩,
    fun s n a m0 L h hlong hcalling => ?_⟩
  · exact ⟨_, exec_clear_of_longBreak h hlong, arrival_of_longBreak_calling h hlong hcalling⟩
  · obtain ⟨hsched, hline, hbase⟩ := arrival_of_longBreak_ignored h hlong hcalling hdue
    exact ⟨_, exec_clear_of_longBreak h hlong, hsched, hline, hbase⟩
  · obtain ⟨hexec, hleaves⟩ := arrival_of_longClose h hlong hcalling
    exact ⟨⟨_, hexec, hleaves⟩, hexec.symm⟩

end Sys2Proof.Machine
end

section
/-! PROOFS. O57: every step keeps each deadline in its state, the pulse count at most 10, and DIALING progressing.
Each operation leaves a line at rest, sets the deadline of the state that it enters, or is one of DIALING's own. -/

namespace Sys2Proof.Machine

open Sys2Proof.Safety

/-! ### One line's digits and deadline -/

/-- R66, R67, R75, R77, R78: one line's share of `DialingConsistent`. -/
structure Supervision.Dials (u : Supervision) : Prop where
  keeper : ∀ d ∈ u.deadline, u.state = keeperOf d.1
  bounded : u.pulseCount ≤ 10
  digit : u.pulseCount ≠ 0 → u.state = .dialing ∧ u.errorSkip = false
  skip : u.errorSkip = true → u.state = .dialing
  waits : u.state = .dialing → (u.deadline.isSome = true ↔ u.pulseCount = 0 ∧ u.errorSkip = false)

theorem dialingConsistent_iff {s : State} : DialingConsistent s ↔ ∀ n, (s.line n).sup.Dials := by
  refine ⟨fun ⟨hkeeper, hdigits, hwaits⟩ n => ?_, fun h =>
    ⟨fun n => (h n).keeper, fun n => ⟨(h n).bounded, (h n).digit, (h n).skip⟩, fun n => (h n).waits⟩⟩
  obtain ⟨hbounded, hdigit, hskip⟩ := hdigits n
  exact ⟨hkeeper n, hbounded, hdigit, hskip, hwaits n⟩

section

variable {u u' : Supervision}

/-- What the guard, the profile and the parties are does not matter. -/
theorem Supervision.Dials.congr (h : u.Dials) (hstate : u'.state = u.state)
    (hpulse : u'.pulseCount = u.pulseCount) (hskip : u'.errorSkip = u.errorSkip)
    (hdeadline : u'.deadline = u.deadline) : u'.Dials := by
  obtain ⟨h1, h2, h3, h4, h5⟩ := h
  rw [← hstate, ← hdeadline] at h1
  rw [← hpulse] at h2
  rw [← hpulse, ← hstate, ← hskip] at h3
  rw [← hskip, ← hstate] at h4
  rw [← hstate, ← hdeadline, ← hpulse, ← hskip] at h5
  exact ⟨h1, h2, h3, h4, h5⟩

/-- A line outside DIALING with no digit, no error-skip and no deadline. -/
theorem Supervision.dials_of_rest (hstate : u.state ≠ .dialing)
    (hdigits : u.pulseCount = 0 ∧ u.errorSkip = false) (hdeadline : u.deadline = none) : u.Dials := by
  obtain ⟨hpulse, hskip⟩ := hdigits
  exact ⟨by simp [hdeadline], by simp [hpulse], fun h => absurd hpulse h, by simp [hskip],
    fun h => absurd h hstate⟩

/-- A line with a deadline of the kind that its state keeps, and no digit and no error-skip. -/
theorem Supervision.dials_of_deadline {kind : DeadlineKind} {x : BitVec 32} (hstate : u.state = keeperOf kind)
    (hdigits : u.pulseCount = 0 ∧ u.errorSkip = false) (hdeadline : u.deadline = some (kind, x)) :
    u.Dials := by
  obtain ⟨hpulse, hskip⟩ := hdigits
  refine ⟨fun d hd => ?_, by simp [hpulse], fun h => absurd hpulse h, by simp [hskip], fun _ => ?_⟩
  · rw [hdeadline] at hd
    cases hd
    exact hstate
  · simp [hdeadline, hpulse, hskip]

/-- R77, R78: a line in DIALING with a digit or error-skip in progress, and no deadline. -/
theorem Supervision.dials_of_digit (hstate : u.state = .dialing) (hbounded : u.pulseCount ≤ 10)
    (hdigits : (u.pulseCount ≠ 0 ∧ u.errorSkip = false) ∨ (u.pulseCount = 0 ∧ u.errorSkip = true))
    (hdeadline : u.deadline = none) : u.Dials := by
  refine ⟨by simp [hdeadline], hbounded, fun hne => ⟨hstate, ?_⟩, fun _ => hstate, fun _ => ?_⟩
  · rcases hdigits with ⟨-, hskip⟩ | ⟨hpulse, -⟩
    · exact hskip
    · exact absurd hpulse hne
  · rcases hdigits with ⟨hpulse, hskip⟩ | ⟨hpulse, hskip⟩ <;> simp [hdeadline, hpulse, hskip]

/-- R66: outside DIALING there is no digit and no error-skip. -/
theorem Supervision.Dials.clear_of_ne (h : u.Dials) (hstate : u.state ≠ .dialing) :
    u.pulseCount = 0 ∧ u.errorSkip = false :=
  ⟨by_contra fun hne => hstate (h.digit hne).1, by
    cases hskip : u.errorSkip with
    | false => rfl
    | true => exact absurd (h.skip hskip) hstate⟩

/-- R67, R77: while a deadline stands there is no digit and no error-skip. -/
theorem Supervision.Dials.clear_of_deadline (h : u.Dials) (hd : u.deadline.isSome = true) :
    u.pulseCount = 0 ∧ u.errorSkip = false := by
  by_cases hstate : u.state = .dialing
  · exact (h.waits hstate).1 hd
  · exact h.clear_of_ne hstate

end

/-! ### Operations that keep every line so -/

/-- From `s` to `t` the digits and the deadline of every line stay consistent. -/
def KeepsDialing (s t : State) : Prop := ∀ n, (s.line n).sup.Dials → (t.line n).sup.Dials

theorem KeepsDialing.consistent {s t : State} (h : KeepsDialing s t) (hs : DialingConsistent s) :
    DialingConsistent t :=
  dialingConsistent_iff.2 fun n => h n (dialingConsistent_iff.1 hs n)

theorem KeepsDialing.refl (s : State) : KeepsDialing s s := fun _ => id

theorem KeepsDialing.trans {s t u : State} (h : KeepsDialing s t) (h' : KeepsDialing t u) :
    KeepsDialing s u := fun n => h' n ∘ h n

theorem keepsDialing_of_lines {s t : State} (h : t.lines = s.lines) : KeepsDialing s t := fun n hn => by
  rwa [State.line_congr h n]

/-- What is done to all but the lines before an operation does not matter, nor what is done so after it. -/
theorem KeepsDialing.after_lines {s t u : State} (h : KeepsDialing t u) (hl : t.lines = s.lines) :
    KeepsDialing s u := (keepsDialing_of_lines hl).trans h

theorem KeepsDialing.then_lines {s t u : State} (h : KeepsDialing s t) (hl : u.lines = t.lines) :
    KeepsDialing s u := h.trans (keepsDialing_of_lines hl)

/-- An operation of the ring lists alone. -/
theorem keepsDialing_lists {s : State} {sched : Scheduler} : KeepsDialing s { s with sched := sched } :=
  keepsDialing_of_lines rfl

/-- An operation that touches line n alone. -/
theorem Touches.keepsDialing {n : LineNo} {s t : State} (h : Touches n s t)
    (hn : (s.line n).sup.Dials → (t.line n).sup.Dials) : KeepsDialing s t := fun m hm => by
  by_cases hmn : m = n
  · subst hmn
    exact hn hm
  · rwa [h.others.1 m hmn]

theorem keepsDialing_updLine {s : State} {n : LineNo} {f : Line → Line}
    (h : (s.line n).sup.Dials → (f (s.line n)).sup.Dials) : KeepsDialing s (s.updLine n f) := fun m hm => by
  rw [State.updLine_line]
  split
  · next hmn => exact h (hmn ▸ hm)
  · exact hm

theorem keepsDialing_mapLines {s : State} {g : LineNo → Line → Line}
    (h : ∀ n, (s.line n).sup.Dials → (g n (s.line n)).sup.Dials) : KeepsDialing s (s.mapLines g) :=
  fun n hn => by
    rw [State.mapLines_line]
    exact h n hn

theorem keepsDialing_report (s : State) (n : LineNo) (r : Report) : KeepsDialing s (s.report n r) :=
  keepsDialing_updLine id

theorem KeepsDialing.report {s t : State} (h : KeepsDialing s t) (n : LineNo) (r : Report) :
    KeepsDialing s (t.report n r) := h.trans (keepsDialing_report t n r)

/-- Operations one after the other. -/
theorem keepsDialing_foldl {α : Type} {f : State → α → State} (hf : ∀ s a, KeepsDialing s (f s a)) (s : State)
    (as : List α) : KeepsDialing s (as.foldl f s) := by
  induction as generalizing s with
  | nil => exact .refl s
  | cons a as ih => exact (hf s a).trans (ih (f s a))

/-! ### Entering a state -/

theorem Line.enterFresh_dials (l : Line) {st : LineState} (tone : Tone) (hst : st ≠ .dialing) :
    (l.enterFresh st tone).sup.Dials :=
  Supervision.dials_of_rest hst ⟨rfl, rfl⟩ rfl

/-- R67, R69: a change of state that keeps the digits, of a line that has none. -/
theorem Line.enter_dials {l : Line} {st : LineState} (tone : Tone) (hst : st ≠ .dialing)
    (hdigits : l.sup.pulseCount = 0 ∧ l.sup.errorSkip = false) : (l.enter st tone).sup.Dials :=
  Supervision.dials_of_rest hst hdigits rfl

theorem keepsDialing_enterFresh (s : State) (n : LineNo) {st : LineState} (tone : Tone)
    (hst : st ≠ .dialing) : KeepsDialing s (s.updLine n fun l => l.enterFresh st tone) :=
  keepsDialing_updLine fun _ => Line.enterFresh_dials _ tone hst

/-- R67, R69: the line of this state, if it is not DIALING, enters one that keeps no deadline. -/
theorem keepsDialing_enter {s : State} {n : LineNo} {st st' : LineState} (tone : Tone)
    (hs : s.stateOf n = st) (hne : st ≠ .dialing) (hst : st' ≠ .dialing) :
    KeepsDialing s (s.updLine n fun l => l.enter st' tone) :=
  keepsDialing_updLine fun h =>
    Line.enter_dials tone hst (h.clear_of_ne (show s.stateOf n ≠ .dialing from hs ▸ hne))

theorem Line.outOfService_dials (l : Line) : l.outOfService.sup.Dials :=
  Supervision.dials_of_rest (by simp) ⟨rfl, rfl⟩ rfl

theorem Line.halted_dials (l : Line) : l.halted.sup.Dials := by
  refine Supervision.dials_of_rest ?_ ⟨rfl, rfl⟩ rfl
  simp only [Line.halted]
  split <;> decide

/-- A released relay is noticed by the guard alone. -/
theorem Line.noticeReleased_dials {l : Line} (now : Instant) (g : Nat) (h : l.sup.Dials) :
    (l.noticeReleased now g).sup.Dials := by
  obtain ⟨r, hr⟩ := l.noticeReleased_eq now g
  rw [hr]
  exact h.congr rfl rfl rfl rfl

theorem Line.atCrossing_dials {l : Line} (now : Instant) (g : Nat) (h : l.sup.Dials) :
    (l.atCrossing now g).sup.Dials := by
  unfold Line.atCrossing
  split
  · exact h
  · exact h
  · refine Line.noticeReleased_dials now g ?_
    split <;> exact h

theorem Line.atFailure_dials {l : Line} (now : Instant) (g : Nat) (h : l.sup.Dials) :
    (l.atFailure now g).sup.Dials := by
  unfold Line.atFailure
  split
  · exact Line.noticeReleased_dials now g h
  · split
    · exact h
    · exact h
    · exact Line.noticeReleased_dials now g h

/-! ### The items of a sample (R68) -/

theorem keepsDialing_itemClear (s : State) (n : LineNo) : KeepsDialing s (s.itemClear n) := by
  by_cases hc : Calling s n
  · refine (works_itemClear s n).touches.keepsDialing fun h => ?_
    rw [itemClear_line hc]
    unfold clearedLine
    split
    · exact Supervision.dials_of_rest (by simp [reported, stateLine]) ⟨rfl, rfl⟩ rfl
    · next hs =>
      exact Supervision.dials_of_rest (by simp [reported, stateLine]) (h.clear_of_ne hs) rfl
  · rw [itemClear_of_not_calling hc]
    exact .refl s

theorem keepsDialing_firstPulse (s : State) (n : LineNo) : KeepsDialing s (s.firstPulse n) :=
  keepsDialing_updLine fun _ => Supervision.dials_of_digit rfl (by simp) (.inl ⟨one_ne_zero, rfl⟩) rfl

/-- R75, R76: a DIAL ERROR in DIALING. -/
theorem keepsDialing_dialError {s : State} {n : LineNo} (hs : s.stateOf n = .dialing) (r : Report) :
    KeepsDialing s ((s.updLine n fun l =>
      { l.cancelDeadline with sup.pulseCount := 0, sup.errorSkip := true }).report n r) :=
  .report (keepsDialing_updLine fun _ =>
    Supervision.dials_of_digit hs (Nat.zero_le 10) (.inr ⟨rfl, rfl⟩) rfl) n r

/-- R75: a counted pulse takes the count to 10 at most, and finds or leaves no deadline. -/
theorem keepsDialing_pulseDialing {s : State} {n : LineNo} (hs : s.stateOf n = .dialing) :
    KeepsDialing s (s.pulseDialing n) := by
  unfold State.pulseDialing
  dsimp only
  split
  · exact .refl s
  · next hskip =>
    split
    · exact keepsDialing_dialError hs _
    · next hten =>
      refine keepsDialing_updLine fun h => ?_
      have hbounded := h.bounded
      refine Supervision.dials_of_digit hs (by dsimp only; omega)
        (.inl ⟨Nat.succ_ne_zero _, Bool.eq_false_iff.2 hskip⟩) ?_
      dsimp only
      split
      · rfl
      · next hpulse =>
        rw [← Option.not_isSome_iff_eq_none]
        exact fun hd => hpulse (h.clear_of_deadline hd).1

theorem keepsDialing_gapDialing {s : State} {n : LineNo} (hs : s.stateOf n = .dialing) :
    KeepsDialing s (s.gapDialing n) := by
  unfold State.gapDialing
  split
  · exact .refl s
  · exact keepsDialing_dialError hs _

/-- R77, R78: the digits are cleared in DIALING, and the PDT deadline is set. -/
theorem keepsDialing_restart {s : State} {n : LineNo} (hs : s.stateOf n = .dialing) (time seconds : Nat) :
    KeepsDialing s (s.updLine n fun l => l.clearDigits.setDeadline .pdt time seconds) :=
  keepsDialing_updLine fun _ => Supervision.dials_of_deadline (kind := .pdt) hs ⟨rfl, rfl⟩ rfl

theorem keepsDialing_itemClose (s : State) (n : LineNo) (finished : Option (BreakClass × Nat)) :
    KeepsDialing s (s.itemClose n finished) := by
  unfold State.itemClose
  split
  case h_1 => exact keepsDialing_enterFresh s n .none (by decide)
  case h_2 => exact keepsDialing_firstPulse s n
  case h_3 hs => exact keepsDialing_pulseDialing hs
  case h_4 hs => exact keepsDialing_gapDialing hs
  case h_5 hs => exact (keepsDialing_restart hs _ _).report n _
  case h_6 => exact keepsDialing_report s n _
  case h_7 => exact keepsDialing_itemClear s n
  case h_8 => exact .refl s

theorem keepsDialing_itemOpen (s : State) (n : LineNo) : KeepsDialing s (s.itemOpen n) := by
  unfold State.itemOpen
  split
  · next hs => exact keepsDialing_enter .none hs (by decide) (by decide)
  · exact .refl s

theorem keepsDialing_qualifySeizure {s : State} {n : LineNo} (hs : s.stateOf n = .seizing) :
    KeepsDialing s (s.qualifySeizure n) :=
  .report (keepsDialing_updLine fun h => Supervision.dials_of_deadline (kind := .fdt) rfl
    (h.clear_of_ne (show s.stateOf n ≠ .dialing by simp [hs])) rfl) n _

theorem keepsDialing_endDigit {s : State} {n : LineNo} (hs : s.stateOf n = .dialing) :
    KeepsDialing s (s.endDigit n) := by
  unfold State.endDigit
  dsimp only
  split
  · exact keepsDialing_restart hs _ _
  · split
    · exact .refl s
    · exact (keepsDialing_restart hs _ _).report n _

theorem keepsDialing_answerNow (s : State) (n : LineNo) (how : AnswerKind) (frames : Nat) :
    KeepsDialing s (s.answerNow n how frames) :=
  .report (keepsDialing_updLine fun _ => Line.enterFresh_dials _ .none (by decide)) n _

theorem keepsDialing_makeRinging (s : State) (n : LineNo) (ms : Nat) :
    KeepsDialing s (s.makeRinging n ms) := by
  unfold State.makeRinging
  split
  · exact .refl s
  · split
    · exact keepsDialing_answerNow (s.dropBookings (· = n)) n _ _
    · split
      · exact keepsDialing_answerNow (s.dropBookings (· = n)) n _ _
      · exact .refl s

theorem keepsDialing_makeWaiting (s : State) (n : LineNo) (ms : Nat) :
    KeepsDialing s (s.makeWaiting n ms) := by
  unfold State.makeWaiting
  split
  · exact keepsDialing_answerNow (s.dropWaits (· = n)) n _ _
  · exact .refl s

theorem keepsDialing_itemMake (s : State) (n : LineNo) (ms : Nat) (fresh : Bool) :
    KeepsDialing s (s.itemMake n ms fresh) := by
  unfold State.itemMake
  split
  case h_1 =>
    split
    · exact .refl s
    · exact keepsDialing_enterFresh s n .none (by decide)
  case h_2 hs =>
    split
    · exact keepsDialing_qualifySeizure hs
    · exact .refl s
  case h_3 hs =>
    split
    · exact keepsDialing_endDigit hs
    · exact .refl s
  case h_4 => exact keepsDialing_makeRinging s n ms
  case h_5 => exact keepsDialing_makeWaiting s n ms
  all_goals exact .refl s

theorem Line.enterGuard_dials (l : Line) (target : ExitTarget) : (l.enterGuard target).sup.Dials :=
  Supervision.dials_of_rest (by simp) ⟨rfl, rfl⟩ rfl

theorem keepsDialing_itemTrip (s : State) (n : LineNo) (now : Instant) :
    KeepsDialing s (s.itemTrip n now) := by
  unfold State.itemTrip
  split
  · refine .report (.after_lines (t := s.dropBookings (· = n)) (keepsDialing_updLine fun _ => ?_) rfl) n _
    dsimp only
    split
    · exact Line.noticeReleased_dials now _ (Line.enterGuard_dials _ .inCall)
    · exact Line.enterGuard_dials _ .inCall
  · exact .refl s

/-- R43, R68: learning ends in LEARNING alone, which holds no digit. -/
theorem keepsDialing_takeEvent {s : State} {n : LineNo} (now : Instant) {e : Option LineEvent}
    (he : e = some .learned → s.stateOf n = .learning) : KeepsDialing s (s.takeEvent n now e) := by
  match e with
  | none => exact .refl s
  | some .opened => exact keepsDialing_itemOpen s n
  | some (.closed finished) => exact keepsDialing_itemClose s n finished
  | some .trip => exact keepsDialing_itemTrip s n now
  | some .learned => exact keepsDialing_enter .none (he rfl) (by decide) (by decide)

theorem keepsDialing_takeClear (s : State) (n : LineNo) (clear : Option Nat) :
    KeepsDialing s (s.takeClear n clear) := by
  match clear with
  | none => exact .refl s
  | some _ => exact keepsDialing_itemClear s n

theorem keepsDialing_takeElapsed (s : State) (n : LineNo) (fresh : Bool) (e : Option Elapsed) :
    KeepsDialing s (s.takeElapsed n fresh e) := by
  match e with
  | none => exact .refl s
  | some (.breakFor _) => exact .refl s
  | some (.makeFor ms) => exact keepsDialing_itemMake s n ms fresh

/-! ### The deadline, the guard and the test (R67, R118, R137) -/

/-- R67: the deadline that is due is the one that stands, and has been reached. -/
theorem deadlineDue_eq_some {s : State} {n : LineNo} {kind : DeadlineKind} : s.deadlineDue n = some kind ↔
    ∃ x, (s.line n).sup.deadline = some (kind, x) ∧ (s.time32 - x).toNat < 2 ^ 31 := by
  unfold State.deadlineDue deadlineReached
  split
  · next k x hd => simp [hd, and_comm]
  · next hd => simp [hd]

/-- R74, R78, R80, R81: what an expiry does in the state that keeps the deadline. -/
theorem expire_of_keeper {s : State} {n : LineNo} {kind : DeadlineKind} (hs : s.stateOf n = keeperOf kind) :
    s.expire n kind = if kind = .how then s.expireToLockout n else s.expireToHowler n kind := by
  unfold State.expire
  rw [hs]
  cases kind <;> rfl

/-- R67: a due deadline stands in its own state, so its expiry leads to HOWLER with HOW's deadline, or to
LOCKOUT. -/
theorem keepsDialing_judgeDeadline (s : State) (n : LineNo) : KeepsDialing s (s.judgeDeadline n) := by
  refine (works_judgeDeadline s n).touches.keepsDialing fun h => ?_
  unfold State.judgeDeadline
  split
  · next kind hdue =>
    obtain ⟨x, hx, -⟩ := deadlineDue_eq_some.1 hdue
    have hdigits := h.clear_of_deadline (by rw [hx]; rfl)
    rw [expire_of_keeper (h.keeper _ hx)]
    split
    · rw [State.expireToLockout, report_line_sup, State.updLine_line_same]
      exact Line.enter_dials .none (by decide) hdigits
    · rw [State.expireToHowler, report_line_sup, State.updLine_line_same]
      exact Supervision.dials_of_deadline (kind := .how) rfl hdigits rfl
  · exact h

theorem keepsDialing_guardTo (s : State) (n : LineNo) {st : LineState} (hst : st ≠ .dialing) :
    KeepsDialing s (s.updLine n fun l => l.guardTo st) :=
  keepsDialing_updLine fun _ => Supervision.dials_of_rest hst ⟨rfl, rfl⟩ rfl

theorem keepsDialing_endGuard (s : State) (n : LineNo) (target : ExitTarget) :
    KeepsDialing s (s.endGuard n target) := by
  have hwait : KeepsDialing s (s.updLine n fun l => l.guardTo .ringWait) :=
    keepsDialing_guardTo s n (by decide)
  unfold State.endGuard
  split
  · exact keepsDialing_updLine fun _ => Supervision.dials_of_rest (by simp [Line.guardToCall]) ⟨rfl, rfl⟩ rfl
  · exact keepsDialing_guardTo s n (by decide)
  · exact KeepsDialing.report (hwait.then_lines rfl) n _
  · exact KeepsDialing.report (hwait.then_lines rfl) n _

theorem keepsDialing_finishTest {s : State} {n : LineNo} (hs : s.stateOf n = .testing) (sum : Nat) :
    KeepsDialing s (s.finishTest n sum) :=
  .report (keepsDialing_updLine fun h => Supervision.dials_of_rest (by simp [Line.endTest])
    (h.clear_of_ne (show s.stateOf n ≠ .dialing by simp [hs])) rfl) n _

theorem keepsDialing_ignoredSample (s : State) (n : LineNo) (now : Instant) (v : Nat) :
    KeepsDialing s (s.ignoredSample n now v) := by
  unfold State.ignoredSample
  split
  · exact keepsDialing_endGuard s n _
  · split
    · next hm =>
      split
      · exact keepsDialing_finishTest (Line.measured_state hm) _
      · exact keepsDialing_updLine id
    · exact .refl s

/-! ### A sample arrival (R40) -/

/-- R43: learning ends at a sample of learn mode. -/
theorem Classifier.stage2_learned {c : Classifier} {m : Mode} {p : Profile} {v : Nat} {k : BitVec 32}
    (h : (c.stage2 m p v k).2.event = some .learned) : m = .learn := by
  cases m with
  | learn => rfl
  | watchUpdate | watch =>
    rcases c.hookDecision_event p v k with he | he | ⟨f, he, -⟩ <;>
      simp [Classifier.stage2, Classifier.watch, he] at h
  | burst =>
    simp only [Classifier.stage2, Classifier.tripWatch] at h
    split at h
    · split at h <;> simp [HandOn.nothing] at h
    · simp [HandOn.nothing] at h
  | transient | off | ignore => cases h

theorem keepsDialing_afterElapsed (s : State) (n : LineNo) (v : Nat) :
    KeepsDialing s (s.afterElapsed n v) := by
  have h2 : KeepsDialing s (s.afterStage2 n v) := keepsDialing_updLine id
  refine ((h2.trans (keepsDialing_takeEvent _ fun he => ?_)).trans (keepsDialing_takeClear _ n _)).trans
    (keepsDialing_takeElapsed _ n _ _)
  have hst := Line.learning_of_mode (Classifier.stage2_learned he)
  simpa [State.stateOf, State.afterStage2] using hst

theorem keepsDialing_afterItems (s : State) (n : LineNo) (v : Nat) : KeepsDialing s (s.afterItems n v) := by
  unfold State.afterItems
  split
  · exact keepsDialing_ignoredSample s n _ v
  · exact .refl s
  all_goals exact keepsDialing_afterElapsed s n v

/-- R41, R44: the baseline and the leakage check leave the supervision of every line. -/
theorem keepsDialing_updateBaseline (s : State) (n : LineNo) (v tc : Nat) :
    KeepsDialing s (s.updateBaseline n v tc) :=
  (works_updateBaseline s n v tc).touches.keepsDialing fun h => by
    rwa [(updateBaseline_alike s n v tc).sup]

theorem keepsDialing_checkLeakage (s : State) (n : LineNo) : KeepsDialing s (s.checkLeakage n) :=
  (works_checkLeakage s n).touches.keepsDialing fun h => by rwa [checkLeakage_sup]

theorem keepsDialing_arrival (s : State) (n : LineNo) (a : Option Byte) : KeepsDialing s (s.arrival n a) := by
  have hdelivered : KeepsDialing s (s.delivered n) := keepsDialing_updLine id
  have h3 (t : State) (v : Nat) : KeepsDialing t (t.afterStage3 n v) :=
    (keepsDialing_afterItems t n v).trans (keepsDialing_judgeDeadline _ n)
  have h4 (t : State) (v : Nat) : KeepsDialing t (t.afterStage4 n v) := by
    unfold State.afterStage4
    split
    · exact (h3 t v).trans (keepsDialing_updateBaseline _ n _ _)
    · exact h3 t v
  unfold State.arrival State.stages
  split
  · split
    · exact (hdelivered.trans (h4 _ _)).trans (keepsDialing_checkLeakage _ n)
    · exact hdelivered.trans (h4 _ _)
  · exact .refl s

end Sys2Proof.Machine
end

section
/-! PROOFS. O57, carried through the scheduler, the orders, the shelf and every command: outside a sample no line
is left in DIALING but one that stays as it was. -/

namespace Sys2Proof.Machine

open Sys2Proof.Safety

/-! ### The scheduler (R101 to R126) -/

theorem keepsDialing_guardWithRelease (s : State) (n : LineNo) (target : ExitTarget) :
    KeepsDialing s (s.guardWithRelease n target) :=
  keepsDialing_updLine fun _ => Line.enterGuard_dials _ target

theorem keepsDialing_ringToIdle (s : State) (n : LineNo) : KeepsDialing s (s.ringToIdle n) := by
  unfold State.ringToIdle
  split
  · exact keepsDialing_guardWithRelease s n .idle
  · exact keepsDialing_enterFresh s n .none (by decide)

theorem keepsDialing_book (s : State) (n : LineNo) (p : Fin 4) (r : FrameSlot) (maxFrames : Nat) :
    KeepsDialing s (s.book n p r maxFrames) :=
  keepsDialing_enterFresh (s.addBooking (s.newBooking n p r maxFrames)) n .none (by decide)

theorem keepsDialing_waitAtTail (s : State) (n : LineNo) (p : Fin 4) (maxFrames : Nat) :
    KeepsDialing s (s.waitAtTail n p maxFrames) :=
  keepsDialing_enterFresh (s.joinTail (newWait n p maxFrames none)) n .none (by decide)

theorem keepsDialing_applyChange (s : State) (n : LineNo) (c : FrameSlot) (change : PendingChange) :
    KeepsDialing s (s.applyChange n c change) := by
  have hdrop : KeepsDialing s (s.dropBookings (· = n)) := keepsDialing_of_lines rfl
  unfold State.applyChange
  dsimp only
  split
  · exact (hdrop.trans (keepsDialing_book _ n _ _ _)).report n _
  · split
    · exact hdrop.trans (keepsDialing_guardWithRelease _ n _)
    · exact (hdrop.trans (keepsDialing_waitAtTail _ n _ _)).report n _

theorem keepsDialing_frameEnd (c : FrameSlot) (s : State) (n : LineNo) :
    KeepsDialing s (s.frameEnd c n) := by
  unfold State.frameEnd
  split
  · exact .refl s
  · split
    · exact (keepsDialing_ringToIdle (s.dropBookings (· = n)) n).report n _
    · split
      · exact keepsDialing_applyChange s n c _
      · exact keepsDialing_of_lines rfl

theorem keepsDialing_frameEnds (s : State) (c : FrameSlot) : KeepsDialing s (s.frameEnds c) :=
  keepsDialing_foldl (keepsDialing_frameEnd c) s _

theorem keepsDialing_relayRequests (s : State) (c : FrameSlot) : KeepsDialing s (s.relayRequests c) := by
  refine (keepsDialing_mapLines fun n h => ?_).trans keepsDialing_lists
  split
  · next b _ =>
    obtain ⟨a, ha⟩ := b.request_eq c (s.line n)
    rw [ha]
    exact h
  · exact h

theorem keepsDialing_endWait (s : State) (n : LineNo) : KeepsDialing s (s.endWait n) :=
  (keepsDialing_enterFresh (s.dropWaits (· = n)) n .none (by decide)).report n _

theorem keepsDialing_countWaits (s : State) (begun : List LineNo) : KeepsDialing s (s.countWaits begun) :=
  .after_lines (keepsDialing_foldl keepsDialing_endWait _ _) rfl

theorem keepsDialing_evictLine (s : State) (b : Booking) (mark : EvictionMark) :
    KeepsDialing s (s.evictLine b mark) := by
  unfold State.evictLine
  dsimp only
  split
  · exact keepsDialing_guardWithRelease s b.line _
  · exact keepsDialing_enterFresh (s.joinEvicted _ mark) b.line .none (by decide)

theorem keepsDialing_evictLines (s : State) (bs : List Booking) (rank : Nat) :
    KeepsDialing s (s.evictLines bs rank) := by
  induction bs generalizing s rank with
  | nil => exact .refl s
  | cons b bs ih => exact (keepsDialing_evictLine s b _).trans (ih _ _)

theorem keepsDialing_reportEvicted (s : State) (ns : List LineNo) :
    KeepsDialing s (s.reportEvicted ns) := by
  refine keepsDialing_foldl (fun t n => ?_) s ns
  split
  · exact keepsDialing_report t n _
  · exact .refl t

theorem keepsDialing_evict (s : State) : KeepsDialing s s.evict :=
  (keepsDialing_lists.trans (keepsDialing_evictLines _ _ 1)).trans (keepsDialing_reportEvicted _ _)

theorem keepsDialing_landed (s : State) (early late : List BusWrite) :
    KeepsDialing s (s.landed early late) :=
  keepsDialing_of_lines ((State.writes_lines _ late).trans (State.writes_lines s early))

theorem keepsDialing_loadMeeting (s : State) (early late : List BusWrite) :
    KeepsDialing s (s.loadMeeting early late) :=
  keepsDialing_of_lines ((State.writes_lines _ late).trans (State.writes_lines s early))

theorem keepsDialing_reloadCheck (s : State) (early late : List BusWrite) :
    KeepsDialing s (s.reloadCheck early late) := by
  unfold State.reloadCheck
  split
  · exact keepsDialing_landed s early late
  · exact ((keepsDialing_loadMeeting s early late).trans (keepsDialing_evict _)).then_lines rfl

theorem keepsDialing_walkBook (s : State) (c : FrameSlot) (e : WaitEntry) (r : FrameSlot) :
    KeepsDialing s (s.walkBook c e r) := by
  have hbook := (keepsDialing_book (s.dropWaits (· = e.line)) e.line e.party r e.maxFrames).report e.line
    (.ringBooked (r - c).val r)
  unfold State.walkBook
  dsimp only
  split
  · exact hbook.trans (.after_lines (t := State.updBooking _ e.line fun b => { b with firstBurst := true })
      (keepsDialing_updLine id) rfl)
  · exact hbook

theorem keepsDialing_walk (c : FrameSlot) (es : List WaitEntry) (s : State) :
    KeepsDialing s (State.walk c es s) := by
  induction es generalizing s with
  | nil => exact .refl s
  | cons e es ih =>
    unfold State.walk
    split
    · exact (keepsDialing_walkBook s c e _).trans (ih _)
    · split
      · exact .refl s
      · exact ih s

theorem keepsDialing_boundaryTail (s : State) (c : FrameSlot) (begun : List LineNo)
    (early late : List BusWrite) : KeepsDialing s (s.boundaryTail c begun early late) := by
  have hwalk (t : State) : KeepsDialing t (if t.source.state = .running then State.walk c t.sched.waits t
      else t) := by
    split
    · exact keepsDialing_walk c _ t
    · exact .refl t
  unfold State.boundaryTail
  dsimp only
  refine .trans ?_ (hwalk _)
  split
  · exact (keepsDialing_countWaits s begun).trans (keepsDialing_reloadCheck _ early late)
  · exact keepsDialing_landed s early late

theorem keepsDialing_boundary (s : State) (first : Bool) (time : Nat) (early late : List BusWrite) :
    KeepsDialing s (s.boundary first time early late) :=
  ((keepsDialing_lists.trans (keepsDialing_frameEnds _ _)).trans (keepsDialing_relayRequests _ _)).trans
    (keepsDialing_boundaryTail _ _ _ early late)

theorem keepsDialing_takeBoundary (s : State) (early late : List BusWrite) :
    KeepsDialing s (s.takeBoundary early late) := by
  unfold State.takeBoundary
  split
  · exact keepsDialing_boundary s false _ early late
  · exact keepsDialing_landed s early late

theorem keepsDialing_takeCrossing (s : State) (now : Instant) : KeepsDialing s (s.takeCrossing now) := by
  unfold State.takeCrossing
  dsimp only
  split
  · exact .after_lines (keepsDialing_mapLines fun _ => Line.atCrossing_dials now _) rfl
  · exact keepsDialing_of_lines rfl

theorem keepsDialing_queueDown (s : State) (n : LineNo) : KeepsDialing s (s.queueDown n) :=
  (keepsDialing_enterFresh s n .none (by decide)).report n _

theorem keepsDialing_failSource (s : State) (now : Instant) : KeepsDialing s (s.failSource now) := by
  unfold State.failSource
  dsimp only
  exact ((keepsDialing_mapLines fun _ => Line.atFailure_dials now _).trans keepsDialing_lists).trans
    (keepsDialing_foldl keepsDialing_queueDown _ _)

theorem keepsDialing_expireLoss (s : State) (now : Instant) : KeepsDialing s (s.expireLoss now) := by
  unfold State.expireLoss
  split
  case h_2 => exact .after_lines (keepsDialing_failSource _ now) rfl
  all_goals exact keepsDialing_of_lines rfl

/-! ### The orders (R82 to R85, R105 to R108, R136) -/

theorem Line.enterLearning_dials (l : Line) : l.enterLearning.sup.Dials :=
  Supervision.dials_of_rest (by simp) ⟨rfl, rfl⟩ rfl

theorem keepsDialing_orderService (s : State) (n : LineNo) (value : Byte) :
    KeepsDialing s (s.orderService n value).state := by
  unfold State.orderService
  split
  · unfold State.orderServiceOff
    split
    · exact .refl s
    · exact .after_lines (t := (s.dropBookings (· = n)).dropWaits (· = n))
        (keepsDialing_updLine fun _ => Line.outOfService_dials _) rfl
  · split
    · unfold State.orderServiceOn
      split
      · split
        · exact keepsDialing_updLine fun _ => Line.enterLearning_dials _
        · exact .refl s
      · exact .refl s
    · exact .refl s

theorem keepsDialing_orderConfigure (s : State) (n : LineNo) (c : ConfigBytes) :
    KeepsDialing s (s.orderConfigure n c).state := by
  have hinstall (l : Line) (h : l.sup.Dials) : (l.installConfig c).sup.Dials := h.congr rfl rfl rfl rfl
  unfold State.orderConfigure
  split
  · exact .refl s
  · split
    · exact keepsDialing_updLine (hinstall _)
    · refine keepsDialing_updLine fun h => ?_
      split
      · exact hinstall _ h
      · exact Line.enterLearning_dials _
    · exact .refl s

theorem keepsDialing_orderConnect (s : State) (n : LineNo) : KeepsDialing s (s.orderConnect n).state := by
  unfold State.orderConnect
  split
  case h_1 | h_2 => exact keepsDialing_enterFresh s n .none (by decide)
  all_goals exact .refl s

theorem keepsDialing_releaseLine (s : State) (n : LineNo) (tone : Tone) :
    KeepsDialing s (s.releaseLine n tone) := by
  unfold State.releaseLine
  split
  · exact keepsDialing_updLine fun _ => Supervision.dials_of_deadline (kind := .cdt) rfl ⟨rfl, rfl⟩ rfl
  · exact keepsDialing_enterFresh s n .none (by decide)

theorem keepsDialing_orderRelease (s : State) (n : LineNo) (tone : Byte) :
    KeepsDialing s (s.orderRelease n tone).state := by
  unfold State.orderRelease
  split
  · exact .refl s
  · dsimp only
    split
    case h_1 | h_2 | h_3 => exact keepsDialing_releaseLine s n _
    all_goals exact .refl s

theorem keepsDialing_ringIdle (s : State) (n : LineNo) (p : Fin 4) (maxFrames : Nat) (o : OrderOutcome) :
    KeepsDialing s (s.ringIdle n p maxFrames o).state := by
  unfold State.ringIdle
  split
  · split
    · exact keepsDialing_book s n p _ maxFrames
    · exact keepsDialing_waitAtTail s n p maxFrames
  · exact keepsDialing_waitAtTail s n p maxFrames

theorem keepsDialing_orderRing (s : State) (n : LineNo) (party maxFrames : Byte) :
    KeepsDialing s (s.orderRing n party maxFrames).state := by
  unfold State.orderRing
  split
  · unfold State.ringParty
    split
    · exact .refl s
    · split
      · exact .refl s
      · split
        · exact .refl s
        · dsimp only
          split
          · exact keepsDialing_of_lines rfl
          · exact keepsDialing_of_lines rfl
          · exact keepsDialing_ringIdle s n _ _ _
  · exact .refl s

theorem keepsDialing_orderStop (s : State) (n : LineNo) : KeepsDialing s (s.orderStop n).state := by
  unfold State.orderStop
  split
  case h_1 => exact keepsDialing_ringToIdle (s.dropBookings (· = n)) n
  case h_2 => exact keepsDialing_enterFresh (s.dropWaits (· = n)) n .none (by decide)
  case h_3 => exact keepsDialing_updLine fun h => h.congr rfl rfl rfl rfl
  case h_4 => exact .refl s

theorem keepsDialing_orderTest (s : State) (n : LineNo) (now : Instant) :
    KeepsDialing s (s.orderTest n now).state := by
  unfold State.orderTest
  split
  · exact .refl s
  · split
    · exact .refl s
    · exact keepsDialing_updLine fun _ => Line.enterFresh_dials _ .none (by decide)

theorem keepsDialing_answer (s : State) (n : LineNo) (o : Order) (now : Instant) :
    KeepsDialing s (s.answer n o now).state := by
  match o with
  | .note => exact .refl s
  | .service value => exact keepsDialing_orderService s n value
  | .configure bytes => exact keepsDialing_orderConfigure s n bytes
  | .ring party maxFrames => exact keepsDialing_orderRing s n party maxFrames
  | .stop => exact keepsDialing_orderStop s n
  | .connect => exact keepsDialing_orderConnect s n
  | .release tone => exact keepsDialing_orderRelease s n tone
  | .test => exact keepsDialing_orderTest s n now
  | .badKind _ => exact .refl s

/-- R13: what is recorded of an order is no digit and no deadline. -/
theorem KeepsDialing.taken {s : State} {a : Answer} (h : KeepsDialing s a.state) (n : LineNo)
    (kind seq : Byte) : KeepsDialing s (a.taken n kind seq) :=
  ((h.trans (keepsDialing_updLine id)).report n _).trans
    (keepsDialing_foldl (fun t r => keepsDialing_report t n r) _ _)

theorem keepsDialing_visit (s : State) (now : Instant) (early late : List BusWrite) :
    KeepsDialing s (s.visit now early late) := by
  have hread : KeepsDialing s (s.readTakenCount s.visitPointer) :=
    .then_lines (t := s.updLine s.visitPointer fun l => { l with rep := l.rep.visited (s.takenCount s.visitPointer) })
      (keepsDialing_updLine id) rfl
  unfold State.visit
  dsimp only
  refine .then_lines (hread.trans ?_) rfl
  split
  · unfold State.consistentRead
    dsimp only
    split
    · exact (keepsDialing_landed _ early late).trans (.taken (keepsDialing_answer _ _ _ now) _ _ _)
    · exact keepsDialing_landed _ early late
  · exact keepsDialing_landed _ early late

/-! ### The shelf and its cards (R16 to R19, R29, R33) -/

theorem keepsDialing_haltShelf (s : State) : KeepsDialing s s.haltShelf :=
  (keepsDialing_mapLines (g := fun _ l => l.halted) fun _ _ => Line.halted_dials _).then_lines rfl

theorem keepsDialing_startShelf (s : State) (early late : List BusWrite) :
    KeepsDialing s (s.startShelf early late) := by
  refine .then_lines (t := (s.loadMeeting early late).mapLines fun _ l => l.startRun)
    ((keepsDialing_loadMeeting s early late).trans (keepsDialing_mapLines fun n h => ?_)) rfl
  unfold Line.startRun
  split
  · exact h
  · exact Line.enterLearning_dials _

theorem keepsDialing_writeControl (s : State) (run ie : Bool) (early late : List BusWrite) :
    KeepsDialing s (s.writeControl run ie early late) := by
  unfold State.writeControl
  refine .after_lines (t := { s with port.run := run, port.interruptEnable := ie }) ?_ rfl
  dsimp only
  split
  · split
    · exact keepsDialing_startShelf _ early late
    · exact keepsDialing_landed _ early late
  · split
    · exact .refl _
    · exact keepsDialing_haltShelf _

theorem Line.softReset_dials (l : Line) (taken : Byte) : (l.halted.softReset taken).sup.Dials :=
  Supervision.dials_of_rest (show LineState.outOfService ≠ .dialing by decide) ⟨rfl, rfl⟩ rfl

theorem keepsDialing_softReset (s : State) : KeepsDialing s s.softReset := fun n _ => by
  rw [softReset_line, haltShelf_line]
  exact Line.softReset_dials _ _

theorem keepsDialing_loseCard (s : State) (c : CardNo) : KeepsDialing s (s.loseCard c) := fun n h => by
  simp only [State.loseCard, State.mapLines_line, State.dropWaits_line, State.dropBookings_line,
    State.updSlot_line]
  split
  · have hsup : ((s.line n).cardLost s.control.params s.shelfTime).sup = (s.line n).outOfService.sup := by
      unfold Line.cardLost
      dsimp only
      split <;> rfl
    rw [hsup]
    exact Line.outOfService_dials _
  · exact h

theorem keepsDialing_returnCard (s : State) (c : CardNo) : KeepsDialing s (s.returnCard c) := fun n h => by
  rw [returnCard_line]
  split <;> exact h

/-! ### Every command -/

theorem exec_keepsDialing (i : Instr) {s : State} (h : DialingConsistent s) :
    ∃ t, exec i s = .next t ∧ DialingConsistent t := by
  have of {t : State} (ht : KeepsDialing s t) : ∃ u, (.next t : Result) = .next u ∧ DialingConsistent u :=
    ⟨t, rfl, ht.consistent h⟩
  have line {n : LineNo} (hi : lineOf i = some n) : ∃ t, exec i s = .next t ∧ DialingConsistent t := by
    rcases exec_line_cases hi s with hs | ⟨o, now, kind, seq, ht⟩ | ⟨a, -, ha⟩
    · exact ⟨s, hs, h⟩
    · exact ⟨_, ht, ((keepsDialing_answer s n o now).taken n kind seq).consistent h⟩
    · exact ⟨_, ha, (keepsDialing_arrival s n a).consistent h⟩
  have guarded {t u : State} (b : Bool) (ht : KeepsDialing s t) (hu : KeepsDialing s u) :
      KeepsDialing s (if b then t else u) := by
    split
    · exact ht
    · exact hu
  have hboundary (early late : List BusWrite) := keepsDialing_takeBoundary s early late
  have hlanded (early late : List BusWrite) := keepsDialing_landed s early late
  cases i
  case powerOn seated =>
    refine ⟨_, rfl, dialingConsistent_iff.2 fun n => ?_⟩
    have hline : (State.powerOn seated).line n = .powerOn := by simp [State.powerOn, State.line]
    change ((State.powerOn seated).line n).sup.Dials
    rw [hline]
    exact Supervision.dials_of_rest (by decide) ⟨rfl, rfl⟩ rfl
  case shelfTimeTick | shelfStatusRead | attentionRegisterRead | registerWriteIgnored | presenceChange =>
    exact of (keepsDialing_of_lines rfl)
  case workMemoryWrite w => exact of (keepsDialing_of_lines (State.writes_lines s [w]))
  case run ie early late => exact of (keepsDialing_writeControl s true ie early late)
  case halt ie => exact of (keepsDialing_writeControl s false ie [] [])
  case softReset => exact of (keepsDialing_softReset s)
  case interruptEnable v => exact of (keepsDialing_writeControl s _ v [] [])
  case startingEnd early late =>
    exact of (guarded _ (.after_lines (keepsDialing_boundary
      { s with control.shelf := .running, control.startingEnd := none } true _ early late) rfl)
      (hlanded early late))
  case orderIntakeVisit us early late => exact of (keepsDialing_visit s _ early late)
  case cardLost c => exact of (guarded _ (keepsDialing_loseCard s c) (.refl s))
  case cardBack c => exact of (guarded _ (keepsDialing_returnCard s c) (.refl s))
  case slotBoundary early late => exact of (hboundary early late)
  case ringEndNoAnswer n early late => exact of (guarded _ (hboundary early late) (hlanded early late))
  case ringEndWaitLimit n early late => exact of (guarded _ (hboundary early late) (hlanded early late))
  case crossing us => exact of (guarded _ (keepsDialing_takeCrossing s _) (.refl s))
  case sourceQualified us => exact of (guarded _ (keepsDialing_takeCrossing s _) (.refl s))
  case lossDeadlineExpiry us => exact of (guarded _ (keepsDialing_expireLoss s _) (.refl s))
  all_goals exact line rfl

/-- Settles O57: `KeepsDialing` holds of every operation, and so of every command. -/
theorem stepKeepsDialing : Obligations.StepKeepsDialing := fun s _ h hstep =>
  step_keeps h (fun i q => exec_keepsDialing i (s := { s with pending := q }) h) hstep

end Sys2Proof.Machine
end

section
/-! PROOFS. O20 to O22: the orders of supervision.  Each is its owner's answer with R13's record, `taken_line`. -/

namespace Sys2Proof.Machine

open Sys2Proof.Safety

/-! ### An order that is taken (R11, R13) -/

theorem order_of_takes {s : State} {n : LineNo} {seq : Byte} (h : Takes s n seq) (kind : Byte) (a : Answer) :
    s.order n kind seq a = a.taken n kind seq := if_pos (takesOrder_iff.2 h)

theorem foldl_report_line {s : State} (t : State) (n : LineNo) (rs : List Report)
    (hcontrol : t.control = s.control) (htime : t.shelfTime = s.shelfTime) :
    (rs.foldl (fun t r => t.report n r) t).line n = rs.foldl (reported s) (t.line n) ∧
      (rs.foldl (fun t r => t.report n r) t).sched = t.sched := by
  induction rs generalizing t with
  | nil => exact ⟨rfl, rfl⟩
  | cons r rs ih =>
    obtain ⟨hline, hsched⟩ := ih (t.report n r) hcontrol htime
    rw [State.report_line_same, hcontrol, htime] at hline
    exact ⟨hline, hsched⟩

/-- R13: the line as the owner's effect leaves it, with the record of the order and its reports. -/
theorem taken_line {s : State} {n : LineNo} {a : Answer} (h : Works n s a.state) (kind seq : Byte) :
    (a.taken n kind seq).line n =
        a.follow.foldl (reported s) (answered s (a.state.line n) a.outcome kind seq) ∧
      (a.taken n kind seq).sched = a.state.sched := by
  have hcontrol := h.touches.shelf.control
  have htime := h.touches.shelf.shelfTime
  obtain ⟨hline, hsched⟩ := foldl_report_line
    ((a.state.updLine n fun l => { l with takenSeq := seq, lastOutcome := some a.outcome }).report n
      (.order a.outcome kind seq)) n a.follow hcontrol htime
  refine ⟨hline.trans ?_, hsched⟩
  rw [State.report_line_same, State.updLine_line_same, State.updLine_control, State.updLine_shelfTime,
    hcontrol, htime]
  rfl

/-- R13: of an order that its owner answers without an effect only the record remains. -/
theorem onlyAnswered_of_unchanged {i : Instr} {s : State} {n : LineNo} {kind seq : Byte} {a : Answer}
    {o : OrderOutcome} (hexec : exec i s = .next (s.order n kind seq a)) (ht : Takes s n seq)
    (ha : a = ⟨o, s, []⟩) : OnlyAnswered i n o kind seq s := by
  subst ha
  exact ⟨_, hexec.trans (congrArg _ (order_of_takes ht kind _)),
    taken_of_unchanged n kind seq (s := s) (a := ⟨o, s, []⟩) rfl rfl⟩

/-- R13: an order that is accepted with no report of its own. -/
theorem exec_accepted {i : Instr} {s : State} {n : LineNo} {kind seq : Byte} {a : Answer}
    (hexec : exec i s = .next (s.order n kind seq a)) (ht : Takes s n seq) (hw : Works n s a.state)
    (hf : a.follow = []) : ∃ t, exec i s = .next t ∧
      t.line n = answered s (a.state.line n) a.outcome kind seq ∧ t.sched = a.state.sched := by
  obtain ⟨hline, hsched⟩ := taken_line hw kind seq
  rw [hf] at hline
  exact ⟨_, hexec.trans (congrArg _ (order_of_takes ht kind a)), hline, hsched⟩

/-! ### SERVICE (R82, R71, R138) -/

/-- R82, R30, R94: line n's booking and wait entry leave the lists, with their load. -/
theorem leavesLists_of_drop (s : State) (n : LineNo) :
    LeavesLists n s ((s.dropBookings (· = n)).dropWaits (· = n)) :=
  ⟨by simp, by simp, fun h k => dropBookings_loads (s := s) (fun m => decide (m = n)) k (h k)⟩

theorem leavesLists_congr {n : LineNo} {s t u : State} (h : LeavesLists n s t) (hu : u.sched = t.sched) :
    LeavesLists n s u := by
  unfold LeavesLists LoadsMatch at *
  rwa [hu]

/-- R82: SERVICE OFF in a state other than OUT OF SERVICE. -/
theorem exec_serviceOff {s : State} {n : LineNo} {seq : Byte} (ht : Takes s n seq)
    (hst : s.stateOf n ≠ .outOfService) : ∃ t, exec (.serviceOff n seq) s = .next t ∧
      (t.line n = if s.stateOf n = .testing then
          reported s (answered s (outLine (s.line n)) .accepted 1 seq) (.testResult .abandoned 0)
        else answered s (outLine (s.line n)) .accepted 1 seq) ∧
      LeavesLists n s t := by
  have hanswer : s.orderServiceOff n = ⟨.accepted,
      ((s.dropBookings (· = n)).dropWaits (· = n)).updLine n Line.outOfService,
      if s.stateOf n = .testing then [.testResult .abandoned 0] else []⟩ := if_neg hst
  obtain ⟨hline, hsched⟩ := taken_line (works_orderServiceOff s n) 1 seq
  have hout : ((s.orderServiceOff n).state.line n) = outLine (s.line n) := by
    rw [hanswer, State.updLine_line_same]
    rfl
  rw [hout, hanswer] at hline
  refine ⟨_, congrArg Host.Outcome.next (order_of_takes ht 1 _), ?_,
    leavesLists_congr (leavesLists_of_drop s n) (by rw [hsched, hanswer]; rfl)⟩
  rw [hanswer, hline]
  split <;> rfl

/-- Settles O20: SERVICE ON is `exec_accepted` with the entry to LEARNING, SERVICE OFF is `exec_serviceOff`, and
the others change nothing. -/
theorem serviceOrders : Obligations.ServiceOrders := by
  refine ⟨fun n seq s ht => ⟨fun hst hcard => ?_, fun hst hcard => ?_, fun hst => ?_⟩,
    fun n seq s ht => ⟨fun hst => ?_, exec_serviceOff ht⟩⟩
  · have hanswer : s.orderServiceOn n = (s.updLine n Line.enterLearning).accept := by
      rw [State.orderServiceOn, if_pos hst, if_pos hcard]
    have h := exec_accepted (i := .serviceOn n seq) rfl ht (works_orderServiceOn s n) (by rw [hanswer]; rfl)
    rwa [hanswer, State.accept, State.updLine_line_same] at h
  · refine onlyAnswered_of_unchanged rfl ht ?_
    rw [State.orderServiceOn, if_pos hst, if_neg (by simp [hcard])]
    rfl
  · exact onlyAnswered_of_unchanged rfl ht (if_neg hst)
  · exact onlyAnswered_of_unchanged rfl ht (if_pos hst)

/-! ### CONFIGURE (R83) -/

/-- R83: the field checks of a CONFIGURE. -/
theorem configGood_iff {b : ConfigBytes} : configGood b = true ↔
    ¬(7 < b.profile.toNat ∨ ∃ p : Fin 4, 15 < b.parties[p].code.toNat ∨ 2 < b.parties[p].lead.toNat) := by
  simp only [configGood, partyGood, Bool.and_eq_true, List.all_eq_true, List.mem_finRange, true_implies,
    decide_eq_true_eq, not_or, not_exists, not_lt]

theorem configOutcome_eq (b : ConfigBytes) : configOutcome b =
    if ∃ p : Fin 4, 40 < b.parties[p].load.toNat then .acceptedAdjusted else .accepted := by
  have hclamps : configClamps b = true ↔ ∃ p : Fin 4, 40 < b.parties[p].load.toNat := by
    simp [configClamps, List.any_eq_true]
  simp only [configOutcome, hclamps]

theorem leadCode_leadOf {b : Byte} (h : b.toNat ≤ 2) : leadCode (leadOf b) = b.toNat := by
  unfold leadOf
  split
  · next h0 => rw [h0]; rfl
  · next h0 =>
    split
    · next h1 => rw [h1]; rfl
    · next h1 =>
      have : b.toNat ≠ 0 := fun e => h0 (BitVec.eq_of_toNat_eq e)
      have : b.toNat ≠ 1 := fun e => h1 (BitVec.eq_of_toNat_eq e)
      have : b.toNat = 2 := by omega
      rw [this]
      rfl

/-- R83: what good bytes install. -/
theorem installConfig_fields {b : ConfigBytes} (hgood : configGood b = true) (l : Line) :
    (l.installConfig b).sup.profile.val = b.profile.toNat ∧
      ∀ p : Fin 4, (l.installConfig b).sup.parties[p].code.val = b.parties[p].code.toNat ∧
        (l.installConfig b).sup.parties[p].load = min 40 b.parties[p].load.toNat ∧
        leadCode (l.installConfig b).sup.parties[p].lead = b.parties[p].lead.toNat := by
  have hfields := configGood_iff.1 hgood
  simp only [not_or, not_exists, not_lt] at hfields
  obtain ⟨hprofile, hparties⟩ := hfields
  refine ⟨Nat.mod_eq_of_lt (Nat.lt_succ_of_le hprofile), fun p => ?_⟩
  obtain ⟨hcode, hlead⟩ := hparties p
  have hparty : (l.installConfig b).sup.parties[p] = partyGiven b.parties[p] := by
    simp [Line.installConfig]
  rw [hparty]
  exact ⟨Nat.mod_eq_of_lt (Nat.lt_succ_of_le hcode), rfl, leadCode_leadOf hlead⟩

/-- R82, R83: CONFIGURE where it is accepted. -/
theorem orderConfigure_of_accepted {s : State} {n : LineNo} {b : ConfigBytes} (hgood : configGood b = true)
    (hst : s.stateOf n = .outOfService ∨ s.stateOf n = .idle) :
    s.orderConfigure n b = ⟨configOutcome b, s.updLine n fun l =>
      if s.stateOf n = .idle ∧ profileGiven b ≠ l.sup.profile then (l.installConfig b).enterLearning
      else l.installConfig b, []⟩ := by
  unfold State.orderConfigure
  rw [if_neg (by simp [hgood])]
  rcases hst with hst | hst
  · simp [hst]
  · simp [hst]

/-- Settles O21: the bytes installed are `installConfig_fields`, the line then as `exec_accepted` says. -/
theorem configureReplacesConfiguration : Obligations.ConfigureReplacesConfiguration := by
  intro n seq b s ht bad
  refine ⟨fun hbad => ?_, fun hgood hout hidle => ?_, fun hgood hst => ?_⟩
  · refine onlyAnswered_of_unchanged rfl ht (if_pos ?_)
    simpa using fun h => configGood_iff.1 h hbad
  · refine onlyAnswered_of_unchanged rfl ht ?_
    unfold State.orderConfigure
    rw [if_neg (by simp [configGood_iff.2 hgood])]
    split
    · next h => exact absurd h hout
    · next h => exact absurd h hidle
    · rfl
  · have hbytes := configGood_iff.2 hgood
    have hanswer := orderConfigure_of_accepted (s := s) (n := n) hbytes hst
    obtain ⟨t, hexec, hline, hsched⟩ := exec_accepted (i := .configure n seq b) rfl ht
      (works_orderConfigure s n b) (by rw [hanswer])
    obtain ⟨hprofile, hparties⟩ := installConfig_fields hbytes (s.line n)
    have hchanged : profileGiven b ≠ (s.line n).sup.profile ↔ (s.line n).sup.profile.val ≠ b.profile.toNat := by
      rw [← hprofile]
      exact ⟨fun h e => h (Fin.ext e.symm), fun h e => h (congrArg Fin.val e.symm)⟩
    rw [hanswer] at hline hsched
    dsimp only at hline
    rw [State.updLine_line_same, configOutcome_eq] at hline
    simp only [hchanged] at hline
    have hsup : (t.line n).sup.profile = ((s.line n).installConfig b).sup.profile ∧
        (t.line n).sup.parties = ((s.line n).installConfig b).sup.parties := by
      rw [hline]
      split <;> exact ⟨rfl, rfl⟩
    obtain ⟨hsup1, hsup2⟩ := hsup
    refine ⟨t, hexec, by rw [hsup1, hprofile], fun p => by rw [hsup2]; exact hparties p, ?_, hsched⟩
    rw [hsup1, hsup2]
    exact hline

/-! ### CONNECT and RELEASE (R84, R85) -/

/-- R85: where a RELEASE takes a line in DIAL TONE, DIALING or IN CALL. -/
theorem releaseLine_line (s : State) (n : LineNo) (tone : Tone) :
    (s.releaseLine n tone).line n =
      (if (s.line n).cls.confirmed = .closed then
        { movedLine (s.line n) .cleardown with
          sup.deadline := some (.cdt, BitVec.ofNat 32 (s.shelfTime + (s.profileOf n).cdt * 1000))
          rel.tone := tone }
      else movedLine (s.line n) .idle) ∧ (s.releaseLine n tone).sched = s.sched := by
  unfold State.releaseLine
  split
  · next h =>
    rw [State.updLine_line_same, if_pos h]
    exact ⟨rfl, rfl⟩
  · next h =>
    rw [State.updLine_line_same, if_neg (by simp [h])]
    exact ⟨rfl, rfl⟩

/-- Settles O22: CONNECT and RELEASE in the states that act on them are `exec_accepted`, and in the others they
change nothing. -/
theorem connectAndRelease : Obligations.ConnectAndRelease := by
  refine ⟨fun n seq s ht => ⟨fun hst => ?_, fun hst => ?_, fun h1 h2 h3 => ?_⟩,
    fun n seq tone s ht => ⟨fun hbad => ?_, fun hgood => ⟨fun hst => ?_, fun hst => ?_,
      fun h1 h2 h3 h4 => ?_⟩⟩⟩
  · have hanswer : s.orderConnect n = (s.updLine n fun l => l.enterFresh .inCall .none).accept := by
      rcases hst with hst | hst <;> simp only [State.orderConnect, hst]
    have h := exec_accepted (i := .connect n seq) rfl ht (works_orderConnect s n) (by rw [hanswer]; rfl)
    rwa [hanswer, State.accept, State.updLine_line_same] at h
  · exact onlyAnswered_of_unchanged rfl ht (by simp only [State.orderConnect, hst, State.accept])
  · refine onlyAnswered_of_unchanged rfl ht ?_
    unfold State.orderConnect
    split
    case h_1 h => exact absurd h h1
    case h_2 h => exact absurd h h2
    case h_3 h => exact absurd h h3
    case h_4 => rfl
  · exact onlyAnswered_of_unchanged rfl ht (if_pos hbad)
  · have hanswer : s.orderRelease n tone = (s.releaseLine n (if tone = 0 then .busy else .none)).accept := by
      rw [State.orderRelease, if_neg (not_lt.2 hgood)]
      rcases hst with hst | hst | hst <;> simp only [hst]
    obtain ⟨hline, hsched⟩ := releaseLine_line s n (if tone = 0 then .busy else .none)
    obtain ⟨t, hexec, htline, htsched⟩ := exec_accepted (i := .release n seq tone) rfl ht
      (works_orderRelease s n tone) (by rw [hanswer]; rfl)
    rw [hanswer, State.accept, hline] at htline
    rw [hanswer, State.accept, hsched] at htsched
    exact ⟨t, hexec, htsched, htline⟩
  · refine onlyAnswered_of_unchanged rfl ht ?_
    rw [State.orderRelease, if_neg (not_lt.2 hgood)]
    simp only [hst, State.accept]
  · refine onlyAnswered_of_unchanged rfl ht ?_
    rw [State.orderRelease, if_neg (not_lt.2 hgood)]
    dsimp only
    split
    case h_1 h => exact absurd h h1
    case h_2 h => exact absurd h h2
    case h_3 h => exact absurd h h3
    case h_4 h => exact absurd h h4
    case h_5 => rfl

end Sys2Proof.Machine
end

section
/-! PROOFS. What a make sample brings about: stage 2 of it, the line as each of the Supervisor's items leaves it,
and the rest of the arrival. -/

namespace Sys2Proof.Machine

open Sys2Proof.Safety

/-! ### The line as an item leaves it (R68) -/

/-- In `t` line n stands as `l`, with its profile in use and the part around it as in `s`. -/
structure Stands (s : State) (n : LineNo) (t : State) (l : Line) : Prop where
  line : t.line n = l
  control : t.control = s.control
  shelfTime : t.shelfTime = s.shelfTime
  sched : t.sched = s.sched
  profile : l.sup.profile = (s.line n).sup.profile

section

variable {s t : State} {n : LineNo} {l : Line}

theorem Stands.profileOf (h : Stands s n t l) : t.profileOf n = s.profileOf n := by
  simp only [State.profileOf, h.line, h.profile, h.control]

theorem Stands.stateOf (h : Stands s n t l) : t.stateOf n = l.sup.state :=
  congrArg (fun l : Line => l.sup.state) h.line

theorem Stands.updLine (h : Stands s n t l) {f : Line → Line} (hf : (f l).sup.profile = l.sup.profile) :
    Stands s n (t.updLine n f) (f l) :=
  ⟨by rw [State.updLine_line_same, h.line], h.control, h.shelfTime, h.sched, hf.trans h.profile⟩

theorem Stands.report (h : Stands s n t l) (r : Report) : Stands s n (t.report n r) (reported s l r) :=
  ⟨by rw [State.report_line_same, h.line, h.control, h.shelfTime]; rfl, h.control, h.shelfTime, h.sched,
    h.profile⟩

/-- R67: no deadline stands, or it is the one that was not due, or it is 1 s to 120 s ahead. -/
theorem Stands.not_due_of_none (h : Stands s n t l) (hd : l.sup.deadline = none) : t.deadlineDue n = none :=
  deadlineDue_of_none (by rw [h.line, hd])

theorem Stands.not_due_of_same (h : Stands s n t l) (hd : l.sup.deadline = (s.line n).sup.deadline)
    (hdue : s.deadlineDue n = none) : t.deadlineDue n = none := by
  rw [← hdue, State.deadlineDue, State.deadlineDue, h.line, hd, State.time32, State.time32, h.shelfTime]

theorem Stands.not_due_of_future (h : Stands s n t l) {kind : DeadlineKind} {seconds : Nat}
    (hd : l.sup.deadline = some (kind, BitVec.ofNat 32 (s.shelfTime + seconds * 1000))) (hpos : 0 < seconds)
    (hmax : seconds ≤ 120) : t.deadlineDue n = none :=
  deadlineDue_of_future (by rw [h.line, hd, h.shelfTime]) hpos hmax

/-- R73: a seizure is qualified. -/
theorem Stands.qualifySeizure (h : Stands s n t l) : Stands s n (t.qualifySeizure n)
    (reported s (withDeadline s (stateLine l .dialTone .dial) .fdt (s.profileOf n).fdt) .seize) := by
  unfold State.qualifySeizure
  rw [h.shelfTime, h.profileOf]
  exact (h.updLine rfl).report .seize

theorem Stands.not_due_of_qualified (hp : Installed (s.profileOf n))
    (h : Stands s n t (reported s (withDeadline s l .fdt (s.profileOf n).fdt) .seize)) :
    t.deadlineDue n = none := by
  obtain ⟨-, -, -, -, -, -, ⟨hlow, hhigh⟩, -⟩ := hp
  exact h.not_due_of_future rfl (by omega) (by omega)

/-- R77, R78: the digit is gone, and the PDT deadline is set. -/
theorem Stands.restart (h : Stands s n t l) : Stands s n
    (t.updLine n fun l => l.clearDigits.setDeadline .pdt t.shelfTime (t.profileOf n).pdt) (freshDigit s n l) := by
  rw [h.shelfTime, h.profileOf]
  exact h.updLine rfl

theorem Stands.not_due_of_pdt (hp : Installed (s.profileOf n)) (h : Stands s n t l)
    (hd : l.sup.deadline = (freshDigit s n l).sup.deadline) : t.deadlineDue n = none := by
  obtain ⟨-, -, -, -, -, -, -, ⟨hlow, hhigh⟩, -⟩ := hp
  exact h.not_due_of_future hd (by omega) (by omega)

/-- R77: a make in DIALING that has reached IDT. -/
theorem Stands.endDigit (h : Stands s n t l) : Stands s n (t.endDigit n) (digitEnded s n l) := by
  unfold State.endDigit digitEnded
  dsimp only
  rw [h.line]
  split
  · exact h.restart
  · split
    · exact h
    · exact h.restart.report _

theorem endDigit_not_due (hp : Installed (s.profileOf n)) (h : Stands s n t l) (hdue : t.deadlineDue n = none) :
    (t.endDigit n).deadlineDue n = none := by
  have hend := h.endDigit
  unfold digitEnded at hend
  split at hend
  · exact hend.not_due_of_pdt hp rfl
  · split at hend
    · next hskip hpulse =>
      have hsame : t.endDigit n = t := by
        simp only [State.endDigit, h.line, hskip, hpulse, Bool.false_eq_true, if_false, if_true]
      rw [hsame]
      exact hdue
    · exact hend.not_due_of_pdt hp rfl

end

/-! ### Stage 2 of a make sample (R45, R52, R53, R55 to R58) -/

section

variable {s t : State} {n : LineNo} {v : Nat} {a : Option Byte} {m0 : BitVec 32} {len : Option Nat} {l : Line}

/-- What a make sample hands on: the close that it confirms, if it confirms one, and the make elapsed. -/
theorem classified_of_makeAt (h : MakeAt s n v m0 len) :
    (s.delivered n).classified n v = ((closedLine s n m0 len).cls,
      { event := if (s.line n).cls.confirmed = .closed then none else some (.closed (classedBreak s n len))
        clear := none, elapsed := some (.makeFor (makeElapsed s n m0)) }) := by
  obtain ⟨-, hp, hh, hshows, hcase⟩ := h
  have helapsed : (closedLine s n m0 len).cls.elapsed ((s.line n).sampleIndex + 1) =
      some (.makeFor (makeElapsed s n m0)) := by
    rw [Classifier.elapsed_of_bothClosed rfl rfl, makeElapsed, ← elapsedAt_eq]
    rfl
  rcases hcase with ⟨hc, hm, rfl⟩ | ⟨hc, hd, hw⟩
  · have hcls : (closedLine s n m0 none).cls = { (s.line n).cls with raw := (s.line n).cls.confirmed, runCount := 0 } := by
      simp [closedLine, outlasts, hc, hm]
    have hdec := Classifier.hookDecision_of_agrees (k := (s.line n).sampleIndex + 1)
      ((rawAfter_of_showsClosed hshows).trans hc.symm)
    rw [← hcls] at hdec
    rw [classified_of_hooked hh, Classifier.watch_of_no_clear hdec (by rw [helapsed]; rfl), helapsed, if_pos hc]
  · have hclass := classified_of_closes hh hc hshows hd
    have hcls := congrArg Line.cls (closedLine_eq hp hc hw)
    dsimp only [sampledLine] at hclass hcls
    rw [hclass, ← hcls, helapsed, finishedBreak_eq hw, if_neg (by simp [hc])]

/-- A make sample is taken, and nothing acted on yet. -/
theorem stands_of_makeAt (h : MakeAt s n v m0 len) :
    Stands s n ((s.delivered n).afterStage2 n v) (closedLine s n m0 len) :=
  ⟨afterStage2_line (classified_of_makeAt h), rfl, rfl, rfl, rfl⟩

/-- R68: the close is acted on, if the sample confirms one. -/
theorem afterClear_of_makeAt (h : MakeAt s n v m0 len) : (s.delivered n).afterClear n v =
    if (s.line n).cls.confirmed = .closed then (s.delivered n).afterStage2 n v
    else ((s.delivered n).afterStage2 n v).itemClose n (classedBreak s n len) := by
  rw [State.afterClear, State.afterEvent, State.handOn, classified_of_makeAt h]
  split <;> rfl

/-- R68: the make follows. -/
theorem afterElapsed_of_makeAt (h : MakeAt s n v m0 len) : (s.delivered n).afterElapsed n v =
    ((s.delivered n).afterClear n v).itemMake n (makeElapsed s n m0)
      (decide ((s.line n).cls.confirmed = .opened)) := by
  rw [State.afterElapsed, State.handOn, classified_of_makeAt h]
  cases hc : (s.line n).cls.confirmed <;> simp [State.takeElapsed, LineEvent.isClose]

/-- R72 to R81: a close outside IDLE whose break is ignored leaves the line as it is. -/
theorem stands_of_ignored (h : MakeAt s n v m0 len) (hidle : s.stateOf n ≠ .idle)
    (hbreak : BreakIgnored s n len) :
    Stands s n ((s.delivered n).afterClear n v) (closedLine s n m0 len) := by
  rw [afterClear_of_makeAt h, itemClose_of_ignored (alike_afterStage2 s n v) hidle hbreak, ite_self]
  exact stands_of_makeAt h

/-- R75: in DIALING a glitch is ignored. -/
theorem breakIgnored_of_glitch (hp : Installed (s.profileOf n)) (hst : s.stateOf n = .dialing)
    (hglitch : ∀ L, len = some L → L < (s.profileOf n).pbMin) : BreakIgnored s n len := by
  obtain ⟨-, -, hpulse, hflash, -⟩ := hp
  intro L hlen
  have hlow := hglitch L hlen
  simp only [hst, reduceCtorEq, false_implies, true_implies, true_and, and_true]
  exact ⟨fun _ => by omega, .inl hlow⟩

/-- A sample that finishes a break confirms a close. -/
theorem confirmedOpen_of_makeAt {L : Nat} (h : MakeAt s n v m0 (some L)) : (s.line n).cls.confirmed = .opened := by
  obtain ⟨-, -, -, -, ⟨-, -, ⟨⟩⟩ | ⟨hc, -, -⟩⟩ := h
  exact hc

/-- R77: the break and the make of a sample whose close leaves the line in DIALING. -/
theorem Stands.itemMake_of_dialing (h : Stands s n t l) (hl : l.sup.state = .dialing) (ms : Nat)
    (fresh : Bool) : Stands s n (t.itemMake n ms fresh)
      (if (s.profileOf n).idt ≤ ms then digitEnded s n l else l) := by
  simp only [State.itemMake, h.stateOf, hl, h.profileOf]
  split
  · exact h.endDigit
  · exact h

theorem itemMake_not_due_of_dialing (hp : Installed (s.profileOf n)) (h : Stands s n t l)
    (hl : l.sup.state = .dialing) (hdue : t.deadlineDue n = none) (ms : Nat) (fresh : Bool) :
    (t.itemMake n ms fresh).deadlineDue n = none := by
  simp only [State.itemMake, h.stateOf, hl]
  split
  · exact endDigit_not_due hp h hdue
  · exact hdue

/-! ### The later stages of the arrival (R40, R41, R44, R67) -/

/-- R40: an arrival of which stage 3 leaves line n as `l`: the baseline stands, but for a line in IDLE that is
confirmed open, and the leakage check is made. -/
theorem arrival_of_stage3 (hs : Sampled s n) (hw : Watched s n)
    (h : Stands s n ((s.delivered n).afterStage3 n (sampleOf a)) l)
    (hbase : s.stateOf n ≠ .idle ∨ l.cls.confirmed = .closed) :
    (s.arrival n a).line n = leakChecked s (s.profileOf n).ll l ∧ (s.arrival n a).sched = s.sched := by
  have htracked : trackedBaseline (s.delivered n) n (sampleOf a) = l.cls.baseline := by
    unfold trackedBaseline
    dsimp only
    rw [h.line]
    refine if_neg fun ⟨hm, _, hopen, _⟩ => ?_
    rcases hbase with hidle | hclosed
    · exact hidle (Line.idle_of_mode ((delivered_modeOf s n).symm.trans hm))
    · rw [hclosed] at hopen
      cases hopen
  have hline : ((s.delivered n).afterStage4 n (sampleOf a)).line n = l := by
    rw [afterStage4_line, h.line, htracked]
    rfl
  obtain ⟨hshelf, -, -, -⟩ := (works_delivered s n).touches.trans
    (touches_afterStage4 (s.delivered n) n (sampleOf a))
  have h4 : Stands s n ((s.delivered n).afterStage4 n (sampleOf a)) l :=
    ⟨hline, hshelf.control, hshelf.shelfTime, (afterStage4_sched _ n _).trans h.sched, h.profile⟩
  have hchecks : (s.delivered n).checksLeakage n (sampleOf a) = true := by
    unfold State.checksLeakage
    rw [delivered_modeOf]
    rcases hw with hm | hm | hm <;> rw [hm]
  rw [arrival_of_sampled hs, State.stages, if_pos hchecks, checkLeakage_line, checkLeakage_sched, h4.profileOf,
    h4.line, leakChecked_congr h4.control h4.shelfTime]
  exact ⟨rfl, h4.sched⟩

theorem afterItems_of_hooked (hh : Hooked s n) (v : Nat) :
    (s.delivered n).afterItems n v = (s.delivered n).afterElapsed n v := by
  unfold State.afterItems
  rw [delivered_modeOf]
  rcases hh with hm | hm <;> rw [hm]

/-- R40: a make sample whose items leave line n as `l`, with no deadline due there. -/
theorem arrival_of_makeAt (h : MakeAt s n (sampleOf a) m0 len)
    (ht : Stands s n ((s.delivered n).afterElapsed n (sampleOf a)) l) (hclosed : l.cls.confirmed = .closed)
    (hdue : ((s.delivered n).afterElapsed n (sampleOf a)).deadlineDue n = none) :
    (s.arrival n a).line n = leakChecked s (s.profileOf n).ll l ∧ (s.arrival n a).sched = s.sched := by
  obtain ⟨hs, -, hh, -⟩ := h
  refine arrival_of_stage3 hs (.inr hh) ?_ (.inr hclosed)
  rw [State.afterStage3, afterItems_of_hooked hh, judgeDeadline_of_not_due hdue]
  exact ht

/-- Log 6: a row that names what a make brings about is the whole arrival where the make brings it about. -/
theorem bringsMake_of_makeAt (h : MakeAt s n (sampleOf a) m0 len) {p : State → Nat → Bool}
    (hp : p ((s.delivered n).afterClear n (sampleOf a)) (makeElapsed s n m0) = true) :
    s.bringsMake n a p = true := by
  have ⟨hs, _⟩ := h
  simp [State.bringsMake, State.handOn, classified_of_makeAt h, hp, delivers_iff.2 hs]

theorem exec_confirmedClose_of_makeAt (h : MakeAt s n (sampleOf a) m0 len)
    (hc : (s.line n).cls.confirmed = .opened) : exec (.confirmedClose n a) s = .next (s.arrival n a) := by
  have ⟨hs, _⟩ := h
  refine congrArg Host.Outcome.next (arrivalIf_true (bringsEvent_eq_true
    (e := .closed (classedBreak s n len)) hs (classified_of_makeAt h) ?_ rfl))
  exact if_neg (by simp [hc])

end

end Sys2Proof.Machine
end

section
/-! PROOFS. O36, O38: seizure, and the end of a digit. -/

namespace Sys2Proof.Machine

open Sys2Proof.Safety

section

variable {s : State} {n : LineNo} {v : Nat} {a : Option Byte} {m0 : BitVec 32} {len : Option Nat} {l : Line}

/-! ### Seizure (R72, R73; log 21) -/

/-- R72: a close that is confirmed in IDLE seizes, whatever the class of its break. -/
theorem stands_seized (h : MakeAt s n v m0 len) (hst : s.stateOf n = .idle)
    (hc : (s.line n).cls.confirmed = .opened) :
    Stands s n ((s.delivered n).afterClear n v) (movedLine (closedLine s n m0 len) .seizing) := by
  have h2 := stands_of_makeAt h
  rw [afterClear_of_makeAt h, if_neg (by simp [hc])]
  unfold State.itemClose
  rw [h2.stateOf.trans hst]
  exact h2.updLine rfl

/-- R73: a make in SEIZING that reaches SQ, the line being `l` in it. -/
theorem leaves_qualified (h : MakeAt s n (sampleOf a) m0 len)
    (ht : Stands s n ((s.delivered n).afterClear n (sampleOf a)) l) (hl : l.sup.state = .seizing)
    (hclosed : l.cls.confirmed = .closed) (hsq : (s.profileOf n).sq ≤ makeElapsed s n m0) :
    Leaves (.seize n a) s n
      (reported s (withDeadline s (stateLine l .dialTone .dial) .fdt (s.profileOf n).fdt) .seize) := by
  have ⟨_, hp, _⟩ := h
  have hrow : s.bringsSeizure n a = true :=
    bringsMake_of_makeAt h (by simp [ht.stateOf, hl, ht.profileOf, hsq])
  have hitems : (s.delivered n).afterElapsed n (sampleOf a) =
      ((s.delivered n).afterClear n (sampleOf a)).qualifySeizure n := by
    rw [afterElapsed_of_makeAt h]
    simp only [State.itemMake, ht.stateOf, hl, ht.profileOf, hsq, if_true]
  have hq := ht.qualifySeizure
  rw [← hitems] at hq
  exact ⟨_, congrArg Host.Outcome.next (arrivalIf_true hrow),
    arrival_of_makeAt h hq hclosed (hq.not_due_of_qualified hp)⟩

/-- R73: a make in SEIZING below SQ, the line being `l` in it. -/
theorem arrival_unqualified (h : MakeAt s n (sampleOf a) m0 len)
    (ht : Stands s n ((s.delivered n).afterClear n (sampleOf a)) l) (hl : l.sup.state = .seizing)
    (hclosed : l.cls.confirmed = .closed) (hsq : ¬(s.profileOf n).sq ≤ makeElapsed s n m0)
    (hdue : ((s.delivered n).afterClear n (sampleOf a)).deadlineDue n = none) :
    (s.arrival n a).line n = leakChecked s (s.profileOf n).ll l ∧ (s.arrival n a).sched = s.sched := by
  have hitems : (s.delivered n).afterElapsed n (sampleOf a) = (s.delivered n).afterClear n (sampleOf a) := by
    rw [afterElapsed_of_makeAt h]
    simp only [State.itemMake, ht.stateOf, hl, ht.profileOf, hsq, if_false]
  rw [← hitems] at ht hdue
  exact arrival_of_makeAt h ht hclosed hdue

/-- R72: a make sample of a line that is confirmed closed in IDLE seizes, and qualifies nothing yet. -/
theorem arrival_seized_of_steady (h : MakeAt s n (sampleOf a) m0 len) (hst : s.stateOf n = .idle)
    (hc : (s.line n).cls.confirmed = .closed) :
    (s.arrival n a).line n = leakChecked s (s.profileOf n).ll (movedLine (closedLine s n m0 len) .seizing) ∧
      (s.arrival n a).sched = s.sched := by
  have h2 := stands_of_makeAt h
  have hitems : (s.delivered n).afterElapsed n (sampleOf a) =
      ((s.delivered n).afterStage2 n (sampleOf a)).startSeizing n := by
    rw [afterElapsed_of_makeAt h, afterClear_of_makeAt h, if_pos hc]
    simp only [State.itemMake, h2.stateOf.trans hst, hc, reduceCtorEq, decide_false, Bool.false_eq_true, if_false]
  have hseized : Stands s n ((s.delivered n).afterElapsed n (sampleOf a))
      (movedLine (closedLine s n m0 len) .seizing) := by
    rw [hitems]
    exact h2.updLine rfl
  exact arrival_of_makeAt h hseized rfl (hseized.not_due_of_none rfl)

/-- Settles O36: a close in IDLE by `stands_seized`, one in SEIZING is ignored, and the make
is told by `leaves_qualified` or `arrival_unqualified`. -/
theorem makeSeizesAndQualifies : Obligations.MakeSeizesAndQualifies := by
  intro s n a m0 len h l idle reaches qualified
  refine ⟨fun hst => ⟨fun hc => ⟨_, rfl, arrival_seized_of_steady h hst hc⟩, fun hc => ?_⟩, fun hst => ?_⟩
  · have hseized := stands_seized h hst hc
    exact ⟨leaves_qualified h hseized rfl rfl, fun hsq => ⟨_, exec_confirmedClose_of_makeAt h hc,
      arrival_unqualified h hseized rfl rfl hsq (hseized.not_due_of_none rfl)⟩⟩
  · have hseizing := stands_of_ignored h (by simp [hst]) (by simp [BreakIgnored, Calling, hst])
    exact ⟨leaves_qualified h hseizing hst rfl, fun hsq hdue => ⟨_, rfl,
      arrival_unqualified h hseizing hst rfl hsq (hseizing.not_due_of_same rfl hdue)⟩⟩

/-! ### The end of a digit (R77) -/

/-- R77: a make in DIALING that reaches IDT with no break to act on. -/
theorem arrival_digitEnded (h : MakeAt s n (sampleOf a) m0 len) (hst : s.stateOf n = .dialing)
    (hidt : (s.profileOf n).idt ≤ makeElapsed s n m0) (hglitch : ∀ L, len = some L → L < (s.profileOf n).pbMin)
    (hclosed : (digitEnded s n (closedLine s n m0 len)).cls.confirmed = .closed)
    (hdue : ∀ t, Stands s n t (digitEnded s n (closedLine s n m0 len)) → t.deadlineDue n = none) :
    (s.arrival n a).line n = leakChecked s (s.profileOf n).ll (digitEnded s n (closedLine s n m0 len)) ∧
      (s.arrival n a).sched = s.sched := by
  have ⟨_, hp, _⟩ := h
  have ht := stands_of_ignored h (by simp [hst]) (breakIgnored_of_glitch hp hst hglitch)
  have hend := ht.itemMake_of_dialing hst (makeElapsed s n m0) (decide ((s.line n).cls.confirmed = .opened))
  rw [if_pos hidt, ← afterElapsed_of_makeAt h] at hend
  exact arrival_of_makeAt h hend hclosed (hdue _ hend)

/-- R77: where a digit or a skipped digit ends, the row is the whole arrival. -/
theorem exec_digit_of_makeAt (h : MakeAt s n (sampleOf a) m0 len) (hst : s.stateOf n = .dialing)
    (hidt : (s.profileOf n).idt ≤ makeElapsed s n m0) (hglitch : ∀ L, len = some L → L < (s.profileOf n).pbMin)
    (hdigit : (s.line n).sup.errorSkip = true ∨ (s.line n).sup.pulseCount ≠ 0) :
    exec (.digit n a) s = .next (s.arrival n a) := by
  have ⟨_, hp, _⟩ := h
  have ht := stands_of_ignored h (by simp [hst]) (breakIgnored_of_glitch hp hst hglitch)
  refine congrArg Host.Outcome.next (arrivalIf_true (bringsMake_of_makeAt h ?_))
  simpa [ht.stateOf, ht.profileOf, ht.line, hidt, closedLine, show (s.line n).sup.state = .dialing from hst]
    using hdigit

/-- Settles O38: the digit ends by `arrival_digitEnded`, of which the three clauses are the cases. -/
theorem makeReachingIdtEndsDigit : Obligations.MakeReachingIdtEndsDigit := by
  intro s n a m0 len h hst hidt hglitch l
  have ⟨_, hp, _⟩ := h
  have harrival := arrival_digitEnded h hst hidt hglitch
  have hrow := exec_digit_of_makeAt h hst hidt hglitch
  refine ⟨fun hskip => ?_, fun hskip hpulse => ?_, fun hskip hpulse hdue => ?_⟩
  · have hended : digitEnded s n l = freshDigit s n l := if_pos hskip
    rw [hended] at harrival
    exact ⟨_, hrow (.inl hskip), harrival rfl fun t ht => ht.not_due_of_pdt hp rfl⟩
  · have hended : digitEnded s n l =
        reported s (freshDigit s n l) (.digit ((s.line n).sup.pulseCount % 10)) := by
      rw [digitEnded, if_neg (by simp [l, closedLine, hskip]), if_neg (show ¬ l.sup.pulseCount = 0 from hpulse)]
      rfl
    rw [hended] at harrival
    exact ⟨_, hrow (.inr hpulse), harrival rfl fun t ht => ht.not_due_of_pdt hp rfl⟩
  · have hended : digitEnded s n l = l := by
      rw [digitEnded, if_neg (by simp [l, closedLine, hskip]), if_pos (show l.sup.pulseCount = 0 from hpulse)]
    rw [hended] at harrival
    exact ⟨_, rfl, harrival rfl fun t ht => ht.not_due_of_same rfl hdue⟩

end

end Sys2Proof.Machine
end

section
/-! PROOFS. O37: a close that finishes a break of at most FLmax, in the states of a call. -/

namespace Sys2Proof.Machine

open Sys2Proof.Safety

/-! ### The classes of such breaks (R56) -/

section

variable {p : Profile} {L : Nat}

theorem breakClass_of_pulse (hmin : p.pbMin ≤ L) (hmax : L ≤ p.pbMax) : breakClass p L = .pulse := by
  rw [breakClass, if_neg (not_lt.2 hmin), if_pos hmax]

theorem breakClass_of_gap (hp : Installed p) (hmin : p.pbMax < L) (hmax : L < p.flMin) :
    breakClass p L = .gap := by
  obtain ⟨-, -, hpulse, -⟩ := hp
  rw [breakClass, if_neg, if_neg (not_le.2 hmin), if_pos hmax]
  omega

theorem breakClass_of_flash (hp : Installed p) (hmin : p.flMin ≤ L) (hmax : L ≤ p.flMax) :
    breakClass p L = .flash := by
  obtain ⟨-, -, hpulse, hflash, -⟩ := hp
  rw [breakClass, if_neg, if_neg, if_neg (not_lt.2 hmin), if_pos hmax] <;> omega

end

/-! ### What a pulse, a gap and a flash leave (R74 to R76, R78) -/

/-- R74: the first pulse of a digit. -/
def firstPulseLine (l : Line) : Line :=
  let x := stateLine l .dialing .none
  { x with sup := { x.sup with pulseCount := 1, errorSkip := false } }

/-- R75: a further pulse is counted; the first one of a later digit clears the deadline. -/
def countedLine (l : Line) : Line :=
  { l with sup := { l.sup with
      pulseCount := l.sup.pulseCount + 1
      deadline := if l.sup.pulseCount = 0 then none else l.sup.deadline } }

section

variable {s t : State} {n : LineNo} {l : Line}

theorem Stands.firstPulse (h : Stands s n t l) : Stands s n (t.firstPulse n) (firstPulseLine l) :=
  h.updLine rfl

theorem Stands.eleventhPulse (h : Stands s n t l) (hskip : l.sup.errorSkip = false)
    (hten : l.sup.pulseCount = 10) :
    Stands s n (t.pulseDialing n) (skippingLine s l .dialErrorTooManyPulses) := by
  simp only [State.pulseDialing, h.line, hskip, hten, Bool.false_eq_true, if_false, if_true]
  exact (h.updLine rfl).report _

theorem Stands.countedPulse (h : Stands s n t l) (hskip : l.sup.errorSkip = false)
    (hten : l.sup.pulseCount ≠ 10) : Stands s n (t.pulseDialing n) (countedLine l) := by
  simp only [State.pulseDialing, h.line, hskip, hten, Bool.false_eq_true, if_false]
  exact h.updLine rfl

theorem Stands.gapDialing (h : Stands s n t l) (hskip : l.sup.errorSkip = false) :
    Stands s n (t.gapDialing n) (skippingLine s l .dialErrorGapBreak) := by
  simp only [State.gapDialing, h.line, hskip, Bool.false_eq_true, if_false]
  exact (h.updLine rfl).report _

/-- R77, R78: a flash leaves no digit that the same make could end. -/
theorem digitEnded_of_flash (s : State) (n : LineNo) (l : Line) (L : Nat) :
    digitEnded s n (reported s (freshDigit s n l) (.flash L)) = reported s (freshDigit s n l) (.flash L) :=
  rfl

theorem Stands.flashDialing (h : Stands s n t l) (L : Nat) :
    Stands s n (t.flashDialing n L) (reported s (freshDigit s n l) (.flash L)) :=
  h.restart.report _

/-- R74, R79 to R81: a make is ignored in the states of a call but DIALING. -/
theorem itemMake_of_calling (h : Calling t n) (hne : t.stateOf n ≠ .dialing) (ms : Nat) (fresh : Bool) :
    t.itemMake n ms fresh = t := by
  unfold State.itemMake
  rcases h with hs | hs | hs | hs | hs | hs <;> simp only [hs]
  exact absurd hs hne

end

/-! ### The close and its make (R68) -/

section

variable {s : State} {n : LineNo} {v : Nat} {a : Option Byte} {m0 : BitVec 32} {L : Nat} {x : Line}

theorem afterClear_of_close (h : MakeAt s n v m0 (some L)) : (s.delivered n).afterClear n v =
    ((s.delivered n).afterStage2 n v).itemClose n (some (breakClass (s.profileOf n) L, L)) := by
  rw [afterClear_of_makeAt h, if_neg (by simp [confirmedOpen_of_makeAt h])]
  rfl

theorem stateOf_afterStage2 (s : State) (n : LineNo) (v : Nat) :
    ((s.delivered n).afterStage2 n v).stateOf n = s.stateOf n :=
  (alike_afterStage2 s n v).stateOf

/-- R74: in DIAL TONE a pulse is acted on. -/
theorem stands_firstPulse (h : MakeAt s n v m0 (some L)) (hst : s.stateOf n = .dialTone)
    (hmin : (s.profileOf n).pbMin ≤ L) (hmax : L ≤ (s.profileOf n).pbMax) :
    Stands s n ((s.delivered n).afterClear n v) (firstPulseLine (closedLine s n m0 (some L))) := by
  rw [afterClear_of_close h, breakClass_of_pulse hmin hmax]
  simp only [State.itemClose, stateOf_afterStage2, hst]
  exact (stands_of_makeAt h).firstPulse

/-- R75: in DIALING a pulse is acted on. -/
theorem afterClear_of_pulse (h : MakeAt s n v m0 (some L)) (hst : s.stateOf n = .dialing)
    (hmin : (s.profileOf n).pbMin ≤ L) (hmax : L ≤ (s.profileOf n).pbMax) :
    (s.delivered n).afterClear n v = ((s.delivered n).afterStage2 n v).pulseDialing n := by
  rw [afterClear_of_close h, breakClass_of_pulse hmin hmax]
  simp only [State.itemClose, stateOf_afterStage2, hst]

/-- R76: in DIALING a gap with error-skip clear is acted on. -/
theorem stands_gap (h : MakeAt s n v m0 (some L)) (hst : s.stateOf n = .dialing)
    (hskip : (s.line n).sup.errorSkip = false) (hmin : (s.profileOf n).pbMax < L)
    (hmax : L < (s.profileOf n).flMin) :
    Stands s n ((s.delivered n).afterClear n v)
      (skippingLine s (closedLine s n m0 (some L)) .dialErrorGapBreak) := by
  have ⟨_, hp, _⟩ := h
  rw [afterClear_of_close h, breakClass_of_gap hp hmin hmax]
  simp only [State.itemClose, stateOf_afterStage2, hst]
  exact (stands_of_makeAt h).gapDialing hskip

/-- R78: in DIALING a flash is acted on. -/
theorem stands_flash (h : MakeAt s n v m0 (some L)) (hst : s.stateOf n = .dialing)
    (hmin : (s.profileOf n).flMin ≤ L) (hmax : L ≤ (s.profileOf n).flMax) :
    Stands s n ((s.delivered n).afterClear n v)
      (reported s (freshDigit s n (closedLine s n m0 (some L))) (.flash L)) := by
  have ⟨_, hp, _⟩ := h
  rw [afterClear_of_close h, breakClass_of_flash hp hmin hmax]
  simp only [State.itemClose, stateOf_afterStage2, hst]
  exact (stands_of_makeAt h).flashDialing L

/-- R79: in IN CALL a flash is acted on. -/
theorem stands_flash_inCall (h : MakeAt s n v m0 (some L)) (hst : s.stateOf n = .inCall)
    (hmin : (s.profileOf n).flMin ≤ L) (hmax : L ≤ (s.profileOf n).flMax) :
    Stands s n ((s.delivered n).afterClear n v) (reported s (closedLine s n m0 (some L)) (.flash L)) := by
  have ⟨_, hp, _⟩ := h
  rw [afterClear_of_close h, breakClass_of_flash hp hmin hmax]
  simp only [State.itemClose, stateOf_afterStage2, hst]
  exact (stands_of_makeAt h).report _

/-- R68, R77: where the close leaves the line in DIALING, its make is judged there. -/
theorem leaves_dials (h : MakeAt s n (sampleOf a) m0 (some L))
    (hx : Stands s n ((s.delivered n).afterClear n (sampleOf a)) x) (hst : x.sup.state = .dialing)
    (hclosed : x.cls.confirmed = .closed) (hdue : ∀ t, Stands s n t x → t.deadlineDue n = none) :
    Leaves (.confirmedClose n a) s n
      (if (s.profileOf n).idt ≤ makeElapsed s n m0 then digitEnded s n x else x) := by
  have ⟨_, hp, _⟩ := h
  have hmake := hx.itemMake_of_dialing hst (makeElapsed s n m0)
    (decide ((s.line n).cls.confirmed = .opened))
  have hdue' := itemMake_not_due_of_dialing hp hx hst (hdue _ hx) (makeElapsed s n m0)
    (decide ((s.line n).cls.confirmed = .opened))
  rw [← afterElapsed_of_makeAt h] at hmake hdue'
  have hclosed' : (digitEnded s n x).cls.confirmed = .closed := by
    unfold digitEnded
    split
    · exact hclosed
    · split <;> exact hclosed
  refine ⟨_, exec_confirmedClose_of_makeAt h (confirmedOpen_of_makeAt h), arrival_of_makeAt h hmake ?_ hdue'⟩
  split
  · exact hclosed'
  · exact hclosed

/-- R68: in the other states of a call the make that follows the close is ignored. -/
theorem leaves_calling (h : MakeAt s n (sampleOf a) m0 (some L)) (hcalling : Calling s n)
    (hne : s.stateOf n ≠ .dialing) (hx : Stands s n ((s.delivered n).afterClear n (sampleOf a)) x)
    (hst : x.sup.state = s.stateOf n) (hclosed : x.cls.confirmed = .closed)
    (hdue : ∀ t, Stands s n t x → t.deadlineDue n = none) : Leaves (.confirmedClose n a) s n x := by
  have hstate := hx.stateOf.trans hst
  have hitems : (s.delivered n).afterElapsed n (sampleOf a) = (s.delivered n).afterClear n (sampleOf a) := by
    rw [afterElapsed_of_makeAt h, itemMake_of_calling (by rwa [Calling, hstate]) (by rwa [hstate])]
  rw [← hitems] at hx
  exact ⟨_, exec_confirmedClose_of_makeAt h (confirmedOpen_of_makeAt h), arrival_of_makeAt h hx hclosed (hdue _ hx)⟩

/-- A break that is ignored in DIALING; its make is judged. -/
theorem leaves_dials_of_ignored (h : MakeAt s n (sampleOf a) m0 (some L)) (hst : s.stateOf n = .dialing)
    (hbreak : BreakIgnored s n (some L)) (hdue : s.deadlineDue n = none) :
    let l := closedLine s n m0 (some L)
    Leaves (.confirmedClose n a) s n
      (if (s.profileOf n).idt ≤ makeElapsed s n m0 then digitEnded s n l else l) :=
  leaves_dials h (stands_of_ignored h (by simp [hst]) hbreak) hst rfl fun _ ht => ht.not_due_of_same rfl hdue

/-- A break that is ignored in another state of a call. -/
theorem leaves_calling_of_ignored (h : MakeAt s n (sampleOf a) m0 (some L)) (hcalling : Calling s n)
    (hne : s.stateOf n ≠ .dialing) (hbreak : BreakIgnored s n (some L)) (hdue : s.deadlineDue n = none) :
    Leaves (.confirmedClose n a) s n (closedLine s n m0 (some L)) :=
  leaves_calling h hcalling hne (stands_of_ignored h (ne_idle_seizing_of_calling hcalling).1 hbreak) rfl rfl
    fun _ ht => ht.not_due_of_same rfl hdue

/-- R75, R76: in DIALING, which breaks are ignored. -/
theorem breakIgnored_of_skip (hp : Installed (s.profileOf n)) (hst : s.stateOf n = .dialing)
    (hskip : (s.line n).sup.errorSkip = true) (hlow : L < (s.profileOf n).flMin) :
    BreakIgnored s n (some L) := by
  obtain ⟨-, -, -, hflash, -⟩ := hp
  rintro _ ⟨⟩
  simp only [hst, reduceCtorEq, false_implies, true_implies, true_and, and_true]
  exact ⟨fun _ => by omega, .inr ⟨hskip, hlow⟩⟩

end

/-- Settles O37: a break that the state acts on by its `stands_` lemma, one that it ignores by `stands_of_ignored`,
and the make of the close by `leaves_dials` in DIALING and by `leaves_calling` elsewhere. -/
theorem finishedBreaksCountPulses : Obligations.FinishedBreaksCountPulses := by
  intro s n a m0 L h hshort l dials rests p pulse gap flash row
  have ⟨_, hp, _⟩ := h
  have ⟨_, _, _, hflash, _⟩ := hp
  refine ⟨fun hst => ?dialTone, fun hst => ?dialing, fun hst hdue => ?inCall, fun hst hdue => ?other⟩
  case dialTone =>
    refine ⟨fun ⟨hmin, hmax⟩ => ?_, fun hb hdue => ?_⟩
    · exact leaves_dials h (stands_firstPulse h hst hmin hmax) rfl rfl fun _ ht => ht.not_due_of_none rfl
    · refine leaves_calling_of_ignored h (.inl hst) (by simp [hst]) ?_ hdue
      rintro _ ⟨⟩
      simpa [hst, hshort] using fun hmin hmax => hb ⟨hmin, hmax⟩
  case dialing =>
    refine ⟨fun ⟨_, hmax⟩ hskip hdue => ?_, fun ⟨hmin, hmax⟩ hskip hten => ?_,
      fun ⟨hmin, hmax⟩ hskip hten hdue => ?_, fun ⟨_, hmax⟩ hskip hdue => ?_, fun ⟨hmin, hmax⟩ hskip => ?_,
      fun hmin => ?_, fun hlow hdue => ?_⟩
    · exact leaves_dials_of_ignored h hst (breakIgnored_of_skip hp hst hskip (hmax.trans_lt hflash.1)) hdue
    · have hx := (stands_of_makeAt h).eleventhPulse hskip hten
      rw [← afterClear_of_pulse h hst hmin hmax] at hx
      exact leaves_dials h hx hst rfl fun _ ht => ht.not_due_of_none rfl
    · have hx := (stands_of_makeAt h).countedPulse hskip hten
      rw [← afterClear_of_pulse h hst hmin hmax] at hx
      refine leaves_dials h hx hst rfl fun _ ht => ?_
      by_cases hfirst : (s.line n).sup.pulseCount = 0
      · exact ht.not_due_of_none (if_pos hfirst)
      · exact ht.not_due_of_same (if_neg hfirst) (hdue.resolve_left hfirst)
    · exact leaves_dials_of_ignored h hst (breakIgnored_of_skip hp hst hskip hmax) hdue
    · exact leaves_dials h (stands_gap h hst hskip hmin hmax) hst rfl fun _ ht => ht.not_due_of_none rfl
    · have hleaves := leaves_dials h (stands_flash h hst hmin hshort) hst rfl
        fun _ ht => ht.not_due_of_pdt hp rfl
      rwa [digitEnded_of_flash, ite_self] at hleaves
    · exact leaves_dials_of_ignored h hst (breakIgnored_of_glitch hp hst (by rintro _ ⟨⟩; exact hlow)) hdue
  case inCall =>
    refine ⟨fun hmin => ?_, fun hb => ?_⟩
    · exact leaves_calling h (by simp [Calling, hst]) (by simp [hst]) (stands_flash_inCall h hst hmin hshort) rfl rfl
        fun _ ht => ht.not_due_of_same rfl hdue
    · refine leaves_calling_of_ignored h (by simp [Calling, hst]) (by simp [hst]) ?_ hdue
      rintro _ ⟨⟩
      simpa [hst, hshort] using not_le.1 hb
  case other =>
    have hne : s.stateOf n ≠ .dialing := by rcases hst with hst | hst | hst <;> simp [hst]
    refine leaves_calling_of_ignored h (.inr (.inr (.inr hst))) hne ?_ hdue
    rintro _ ⟨⟩
    rcases hst with hst | hst | hst <;> simp [hst, hshort]

end Sys2Proof.Machine
end

section
/-! PROOFS. O39: the deadlines of R67, judged once the items of a sample are acted on. -/

namespace Sys2Proof.Machine

open Sys2Proof.Safety

/-- The row that names the expiry of this deadline. -/
def expiryRow (n : LineNo) (a : Option Byte) : DeadlineKind → Instr
  | .fdt => .fdtExpiry n a
  | .pdt => .pdtExpiry n a
  | .cdt => .cdtExpiry n a
  | .how => .howExpiry n a

/-- What the expiry of this deadline leaves of the line of its state (R74, R78, R80, R81). -/
def expiredLine (s : State) (n : LineNo) (kind : DeadlineKind) (l : Line) : Line :=
  if kind = .how then reported s (stateLine l .lockout .none) (.timeout .how)
  else reported s (withDeadline s (stateLine l .howler .howler) .how (s.profileOf n).how) (.timeout kind)

theorem calling_of_keeperOf {s : State} {n : LineNo} {kind : DeadlineKind} (h : s.stateOf n = keeperOf kind) :
    Calling s n := by
  cases kind <;> simp [Calling, h, keeperOf]

theorem pdt_of_keeperOf {kind : DeadlineKind} (h : keeperOf kind = .dialing) : kind = .pdt := by
  cases kind with
  | pdt => rfl
  | fdt | cdt | how => cases h

section

variable {s t : State} {n : LineNo} {v : Nat} {a : Option Byte} {l : Line} {kind : DeadlineKind}

theorem exec_expiryRow : exec (expiryRow n a kind) s =
    .next (s.arrivalIf (s.bringsExpiry n a kind (keeperOf kind)) n a) := by
  cases kind <;> rfl

/-! ### A sample of which the state acts on nothing -/

/-- What the items of such a sample leave is the line with its sample taken. -/
theorem stands_of_uneventful (h : Uneventful s n v l) :
    Stands s n ((s.delivered n).afterItems n v) l ∧ l.sup = (s.line n).sup := by
  obtain ⟨-, hw, c, ho, hclass, rfl, hi⟩ := quietSample_of_uneventful h
  rw [afterItems_of_ignored hw hclass hi]
  exact ⟨⟨afterStage2_line hclass, rfl, rfl, rfl, rfl⟩, rfl⟩

theorem deadlineDue_of_uneventful (h : Uneventful s n v l) :
    ((s.delivered n).afterItems n v).deadlineDue n = s.deadlineDue n := by
  obtain ⟨ht, hsup⟩ := stands_of_uneventful h
  rw [State.deadlineDue, State.deadlineDue, ht.line, hsup, State.time32, State.time32, ht.shelfTime]

/-- R67: the expiry of a deadline in its own state. -/
theorem Stands.expire (h : Stands s n t l) (hl : l.sup.state = keeperOf kind) :
    Stands s n (t.expire n kind) (expiredLine s n kind l) := by
  rw [expire_of_keeper (h.stateOf.trans hl), expiredLine]
  split
  · exact (h.updLine rfl).report _
  · unfold State.expireToHowler
    rw [h.shelfTime, h.profileOf]
    exact (h.updLine rfl).report _

/-- R67: the arrival at which the deadline has been reached. -/
theorem arrival_expired (h : Uneventful s n (sampleOf a) l) (hst : s.stateOf n = keeperOf kind)
    (hdue : s.deadlineDue n = some kind) :
    exec (expiryRow n a kind) s = .next (s.arrival n a) ∧
      (s.arrival n a).line n = leakChecked s (s.profileOf n).ll (expiredLine s n kind l) ∧
      (s.arrival n a).sched = s.sched := by
  obtain ⟨hs, hw, -⟩ := quietSample_of_uneventful h
  obtain ⟨ht, hsup⟩ := stands_of_uneventful h
  have hl : l.sup.state = keeperOf kind := (congrArg Supervision.state hsup).trans hst
  have hdue' := (deadlineDue_of_uneventful h).trans hdue
  obtain ⟨hidle, -⟩ := ne_idle_seizing_of_calling (calling_of_keeperOf hst)
  refine ⟨?_, arrival_of_stage3 hs hw ?_ (.inl hidle)⟩
  · rw [exec_expiryRow, arrivalIf_true]
    simp [State.bringsExpiry, delivers_iff.2 hs, hdue', ht.stateOf.trans hl]
  · simp only [State.afterStage3, State.judgeDeadline, hdue']
    exact ht.expire hl

/-- R67: the arrival at which no deadline has been reached. -/
theorem arrival_unexpired (h : Uneventful s n (sampleOf a) l) (hidle : s.stateOf n ≠ .idle)
    (hdue : s.deadlineDue n = none) :
    (s.arrival n a).line n = leakChecked s (s.profileOf n).ll l ∧ (s.arrival n a).sched = s.sched := by
  obtain ⟨hs, hw, -⟩ := quietSample_of_uneventful h
  obtain ⟨ht, -⟩ := stands_of_uneventful h
  refine arrival_of_stage3 hs hw ?_ (.inl hidle)
  rwa [State.afterStage3, judgeDeadline_of_not_due ((deadlineDue_of_uneventful h).trans hdue)]

/-- Log 6: the row of an expiry that does not come about. -/
theorem exec_expiryRow_of_not_due
    (h : ((s.delivered n).afterItems n (sampleOf a)).deadlineDue n = none) :
    exec (expiryRow n a kind) s = .next s := by
  rw [exec_expiryRow, arrivalIf_false (bringsExpiry_eq_false h _ _)]

/-! ### A sample with an item that moves the deadline (R74 to R76, R78, R80, R81; log 21) -/

theorem itemClear_not_due (h : Calling t n) : (t.itemClear n).deadlineDue n = none := by
  obtain ⟨-, hdeadline, -⟩ := clearedLine_sup t n (t.line n)
  exact deadlineDue_of_none (by rw [itemClear_line h, hdeadline])

/-- A clear during the break. -/
theorem not_due_of_longBreak {k0 : BitVec 32} (h : BreakAt s n v k0)
    (hlong : (s.profileOf n).flMax < breakElapsed s n k0) (hcalling : Calling s n) :
    ((s.delivered n).afterElapsed n v).deadlineDue n = none := by
  have hstage2 := (alike_afterStage2 s n v).calling hcalling
  obtain ⟨-, hseizing⟩ := ne_idle_seizing_of_calling hstage2
  rw [afterElapsed_of_longBreak h hlong, afterEvent_of_longBreak h hlong, itemOpen_of_not_seizing hseizing,
    ite_self]
  exact itemClear_not_due hstage2

variable {m0 : BitVec 32} {L : Nat}

/-- A close of class clear; its make is not acted on in IDLE. -/
theorem not_due_of_longClose (h : MakeAt s n v m0 (some L)) (hlong : (s.profileOf n).flMax < L)
    (hcalling : Calling s n) : ((s.delivered n).afterElapsed n v).deadlineDue n = none := by
  have ⟨_, hp, _⟩ := h
  have hstage2 := (alike_afterStage2 s n v).calling hcalling
  have hmake := takeElapsed_of_idle (itemClear_stateOf hstage2) (some (.makeFor (makeElapsed s n m0)))
  rw [afterElapsed_of_makeAt h, decide_eq_true (confirmedOpen_of_makeAt h), afterClear_of_close h,
    (breakClass_clear_iff hp).2 hlong, itemClose_of_clear hstage2]
  rw [State.takeElapsed] at hmake
  rw [hmake]
  exact itemClear_not_due hstage2

/-- A close that leaves the line in DIALING with no deadline, or with that of PDT set; its make may set the latter
again. -/
theorem not_due_of_dials {x : Line} (h : MakeAt s n v m0 (some L))
    (hx : Stands s n ((s.delivered n).afterClear n v) x) (hst : x.sup.state = .dialing)
    (hdue : ((s.delivered n).afterClear n v).deadlineDue n = none) :
    ((s.delivered n).afterElapsed n v).deadlineDue n = none := by
  have ⟨_, hp, _⟩ := h
  rw [afterElapsed_of_makeAt h]
  exact itemMake_not_due_of_dialing hp hx hst hdue _ _

/-- A pulse, a gap or a flash in DIALING with no digit in progress. -/
theorem not_due_of_dialing (h : MakeAt s n v m0 (some L)) (hst : s.stateOf n = .dialing)
    (hdigit : (s.line n).sup.pulseCount = 0 ∧ (s.line n).sup.errorSkip = false)
    (hmin : (s.profileOf n).pbMin ≤ L) (hmax : L ≤ (s.profileOf n).flMax) :
    ((s.delivered n).afterElapsed n v).deadlineDue n = none := by
  have ⟨_, hp, _⟩ := h
  obtain ⟨hcount, hskip⟩ := hdigit
  rcases le_or_gt L (s.profileOf n).pbMax with hpulse | hgap
  · have hx := (stands_of_makeAt h).countedPulse hskip (by simp [closedLine, hcount])
    rw [← afterClear_of_pulse h hst hmin hpulse] at hx
    exact not_due_of_dials h hx hst (hx.not_due_of_none (if_pos hcount))
  · rcases lt_or_ge L (s.profileOf n).flMin with hgap' | hflash
    · have hx := stands_gap h hst hskip hgap hgap'
      exact not_due_of_dials h hx hst (hx.not_due_of_none rfl)
    · have hx := stands_flash h hst hflash hmax
      exact not_due_of_dials h hx hst (hx.not_due_of_pdt hp rfl)

/-- R67, R68: no deadline is due once such an item is acted on. -/
theorem not_due_of_itemMovesDeadline (h : ItemMovesDeadline s n v) (hcalling : Calling s n)
    (hdigit : s.stateOf n = .dialing → (s.line n).sup.pulseCount = 0 ∧ (s.line n).sup.errorSkip = false) :
    ((s.delivered n).afterItems n v).deadlineDue n = none := by
  rcases h with ⟨k0, hb, hlong⟩ | ⟨m0, L, hm, hitem⟩
  · have ⟨_, hh, _⟩ := hb
    rw [afterItems_of_hooked hh]
    exact not_due_of_longBreak hb hlong hcalling
  · have ⟨_, _, hh, _⟩ := hm
    rw [afterItems_of_hooked hh]
    rcases lt_or_ge (s.profileOf n).flMax L with hlong | hshort
    · exact not_due_of_longClose hm hlong hcalling
    · rcases hitem with hlong | ⟨hst, hmin, hmax⟩ | ⟨hst, hmin⟩
      · exact absurd hshort (not_le.2 hlong)
      · have hx := stands_firstPulse hm hst hmin hmax
        exact not_due_of_dials hm hx rfl (hx.not_due_of_none rfl)
      · exact not_due_of_dialing hm hst (hdigit hst) hmin hshort

end

/-- Settles O39: a deadline that is due by `arrival_expired`, one that is not by `arrival_unexpired`, and one that an
item moves by `not_due_of_itemMovesDeadline`. -/
theorem deadlinesExpire : Obligations.DeadlinesExpire := by
  intro n a kind s x hd hst hdigit row
  have hrow : row = expiryRow n a kind := by cases kind <;> rfl
  have hcalling := calling_of_keeperOf hst
  obtain ⟨hidle, -⟩ := ne_idle_seizing_of_calling hcalling
  rw [hrow]
  refine ⟨fun l hl => ⟨fun hreached => ?_, fun hahead => ?_⟩, fun hitem => ?_⟩
  · obtain ⟨hexec, harrival⟩ := arrival_expired hl hst (deadlineDue_eq_some.2 ⟨x, hd, hreached⟩)
    refine ⟨hexec.symm, fun hne => ⟨_, hexec, ?_⟩, fun hhow => ⟨_, hexec, ?_⟩⟩
    · rwa [expiredLine, if_neg hne] at harrival
    · rwa [expiredLine, if_pos hhow] at harrival
  · have hdue : s.deadlineDue n = none := by
      simp only [State.deadlineDue, hd]
      exact if_neg (by simpa [deadlineReached, State.time32] using hahead)
    exact ⟨exec_expiryRow_of_not_due ((deadlineDue_of_uneventful hl).trans hdue), _, rfl,
      arrival_unexpired hl hidle hdue⟩
  · refine exec_expiryRow_of_not_due (not_due_of_itemMovesDeadline hitem hcalling fun hdialing => hdigit ?_)
    exact pdt_of_keeperOf (hst.symm.trans hdialing)

end Sys2Proof.Machine
end

section
/-! PROOFS. O55: what the ring lists and the slot load table owe to one line, and the operations that keep it. -/

namespace Sys2Proof.Machine

open Sys2Proof.Safety

/-! ### One line's share of the ring lists (R92, R93) -/

/-- How often line n stands in the booking list. -/
def State.booked (s : State) (n : LineNo) : Nat := (s.sched.bookings.map Booking.line).count n

/-- How often line n stands in the wait list. -/
def State.waiting (s : State) (n : LineNo) : Nat := (s.sched.waits.map WaitEntry.line).count n

/-- R92, R93, R127: the table, and one line's share of `RingListsConsistent`. -/
structure State.Rings (s : State) (n : LineNo) : Prop where
  loads : LoadsMatch s
  within : WithinCapacity s
  booked : s.booked n = if s.stateOf n = .ringing then 1 else 0
  waiting : s.waiting n = if s.stateOf n = .ringWait then 1 else 0
  shelf : s.control.shelf ≠ .running →
    s.stateOf n ≠ .ringWait ∧ s.stateOf n ≠ .ringing ∧ s.stateOf n ≠ .ringGuard
  source : s.source.state ≠ .running → s.stateOf n ≠ .ringing

section

variable {s : State}

theorem bookings_nodup (h : ListsMatchStates s) : (s.sched.bookings.map Booking.line).Nodup := by
  obtain ⟨-, -, hnodup, -⟩ := h
  exact hnodup

theorem waits_nodup (h : ListsMatchStates s) : (s.sched.waits.map WaitEntry.line).Nodup := by
  obtain ⟨-, -, -, hnodup⟩ := h
  exact hnodup

/-- R14: off RUNNING no line is in a ringing state. -/
theorem not_ringing_of_off (h : RingingOnlyWhileRunning s) (hoff : s.control.shelf ≠ .running) (n : LineNo) :
    s.stateOf n ≠ .ringWait ∧ s.stateOf n ≠ .ringing ∧ s.stateOf n ≠ .ringGuard := by
  obtain ⟨hshelf, -⟩ := h
  obtain ⟨-, -, hstates⟩ := hshelf hoff
  exact hstates n

end

/-- A list of entries is empty if no line has one. -/
theorem eq_nil_of_count_lines {α : Type} {line : α → LineNo} {as : List α}
    (h : ∀ n, (as.map line).count n = 0) : as = [] :=
  List.eq_nil_iff_forall_not_mem.2 fun a ha => List.count_eq_zero.1 (h (line a)) (List.mem_map_of_mem ha)

/-- A list of entries holds exactly the lines that `p` says, none twice, if it holds each as often as it is so. -/
theorem count_lines_iff {ns : List LineNo} {p : LineNo → Prop} [DecidablePred p] :
    ((∀ n, n ∈ ns ↔ p n) ∧ ns.Nodup) ↔ ∀ n, ns.count n = if p n then 1 else 0 := by
  refine ⟨fun ⟨hmem, hnodup⟩ n => ?_, fun h => ⟨fun n => ?_, List.nodup_iff_count_le_one.2 fun n => ?_⟩⟩
  · simp only [hnodup.count, hmem]
  · rw [← List.count_pos_iff, h]
    split <;> simp [*]
  · rw [h]
    split <;> simp

theorem ringListsConsistent_iff {s : State} : RingListsConsistent s ↔ ∀ n, s.Rings n := by
  constructor
  · rintro ⟨hloads, hwithin, ⟨hb, hw, hbn, hwn⟩, hrunning⟩ n
    refine ⟨hloads, hwithin, count_lines_iff.1 ⟨hb, hbn⟩ n, count_lines_iff.1 ⟨hw, hwn⟩ n,
      fun h => not_ringing_of_off hrunning h n, fun h hn => ?_⟩
    have hmem := (hb n).2 hn
    rw [hrunning.2 h] at hmem
    cases hmem
  · intro h
    have ⟨hb, hbn⟩ := count_lines_iff.2 fun n => (h n).booked
    have ⟨hw, hwn⟩ := count_lines_iff.2 fun n => (h n).waiting
    have hbookings (hr : ∀ n, s.stateOf n ≠ .ringing) : s.sched.bookings = [] :=
      eq_nil_of_count_lines fun n => ((h n).booked).trans (if_neg (hr n))
    refine ⟨(h 0).loads, (h 0).within, ⟨hb, hw, hbn, hwn⟩, fun hoff => ?_, fun hoff => ?_⟩
    · have hstates n := (h n).shelf hoff
      exact ⟨hbookings fun n => (hstates n).2.1,
        eq_nil_of_count_lines fun n => ((h n).waiting).trans (if_neg (hstates n).1), hstates⟩
    · exact hbookings fun n => (h n).source hoff

/-! ### An operation of one line -/

theorem count_map_of_filter_eq {α : Type} {line : α → LineNo} {n m : LineNo} {as bs : List α}
    (h : as.filter (fun a => decide (line a ≠ n)) = bs.filter fun b => decide (line b ≠ n)) (hm : m ≠ n) :
    (as.map line).count m = (bs.map line).count m := by
  have hcount (cs : List α) : (cs.map line).count m =
      ((cs.filter fun c => decide (line c ≠ n)).map line).count m := by
    induction cs with
    | nil => rfl
    | cons c cs ih =>
      by_cases hc : line c = n
      · simpa [hc, hm.symm] using ih
      · simp [hc, List.count_cons, ih]
  rw [hcount as, h, ← hcount bs]

section

variable {n m : LineNo} {s t : State}

theorem Touches.booked (h : Touches n s t) (hm : m ≠ n) : t.booked m = s.booked m :=
  count_map_of_filter_eq h.others.2.1 hm

theorem Touches.waiting (h : Touches n s t) (hm : m ≠ n) : t.waiting m = s.waiting m :=
  count_map_of_filter_eq h.others.2.2 hm

theorem Touches.stateOf (h : Touches n s t) (hm : m ≠ n) : t.stateOf m = s.stateOf m :=
  congrArg (fun l : Line => l.sup.state) (h.others.1 m hm)

theorem Touches.source (h : Touches n s t) : t.source = s.source := by
  obtain ⟨-, -, -, -, -, -, hsource, -⟩ := h.shelf
  exact hsource

/-- Another line keeps its share, if the table is still right. -/
theorem Touches.rings (h : Touches n s t) (hm : m ≠ n) (hloads : LoadsMatch t) (hwithin : WithinCapacity t)
    (hr : s.Rings m) : t.Rings m where
  loads := hloads
  within := hwithin
  booked := by rw [h.booked hm, h.stateOf hm, hr.booked]
  waiting := by rw [h.waiting hm, h.stateOf hm, hr.waiting]
  shelf := by rw [h.shelf.control, h.stateOf hm]; exact hr.shelf
  source := by rw [h.source, h.stateOf hm]; exact hr.source

theorem Touches.ringLists (h : Touches n s t) (hn : s.Rings n → t.Rings n) (hr : RingListsConsistent s) :
    RingListsConsistent t := by
  have hs := ringListsConsistent_iff.1 hr
  have ht := hn (hs n)
  refine ringListsConsistent_iff.2 fun m => ?_
  by_cases hm : m = n
  · exact hm ▸ ht
  · exact h.rings hm ht.loads ht.within (hs m)

/-! ### A line in neither list -/

/-- The table is right, and line n stands in neither list of a shelf that is RUNNING: what a line is between its
leaving a list and its next state. -/
structure State.Unlisted (s : State) (n : LineNo) : Prop where
  loads : LoadsMatch s
  within : WithinCapacity s
  booked : s.booked n = 0
  waiting : s.waiting n = 0
  running : s.control.shelf = .running

theorem State.Rings.unlisted (h : s.Rings n) (hrun : s.control.shelf = .running)
    (hst : s.stateOf n ≠ .ringing ∧ s.stateOf n ≠ .ringWait) : s.Unlisted n :=
  ⟨h.loads, h.within, h.booked.trans (if_neg hst.1), h.waiting.trans (if_neg hst.2), hrun⟩

/-- R14: a ringing state means that the shelf is RUNNING. -/
theorem State.Rings.running (h : s.Rings n)
    (hst : s.stateOf n = .ringWait ∨ s.stateOf n = .ringing ∨ s.stateOf n = .ringGuard) :
    s.control.shelf = .running := by
  by_contra hoff
  obtain ⟨hw, hb, hg⟩ := h.shelf hoff
  exact hst.elim hw fun hst => hst.elim hb hg

theorem State.Rings.sourceRunning (h : s.Rings n) (hst : s.stateOf n = .ringing) : s.source.state = .running :=
  by_contra fun hoff => h.source hoff hst

/-- R92, R94: the table stays right when the bookings of some lines are removed. -/
theorem loads_dropBookings (p : LineNo → Bool) (hloads : LoadsMatch s) (hwithin : WithinCapacity s) :
    LoadsMatch (s.dropBookings p) ∧ WithinCapacity (s.dropBookings p) := by
  refine ⟨fun k => dropBookings_loads p k (hloads k), fun k => le_trans ?_ (hwithin k)⟩
  exact (foldl_subLoad_get _ s.sched.loads k).trans_le (Nat.sub_le _ _)

theorem dropBookings_booked (s : State) (p : LineNo → Bool) (n : LineNo) :
    (s.dropBookings p).booked n = if p n then 0 else s.booked n := by
  unfold State.booked
  rw [State.dropBookings_sched_bookings]
  induction s.sched.bookings with
  | nil => simp
  | cons b bs ih =>
    by_cases hb : b.line = n
    · subst hb
      cases hp : p b.line <;> simp_all
    · cases hp : p b.line <;> simp_all

theorem dropWaits_waiting (s : State) (p : LineNo → Bool) (n : LineNo) :
    (s.dropWaits p).waiting n = if p n then 0 else s.waiting n := by
  unfold State.waiting
  rw [State.dropWaits_sched_waits]
  induction s.sched.waits with
  | nil => simp
  | cons e es ih =>
    by_cases he : e.line = n
    · subst he
      cases hp : p e.line <;> simp_all
    · cases hp : p e.line <;> simp_all

/-- R94: a line that leaves the booking list. -/
theorem State.Rings.dropBookings (h : s.Rings n) (hst : s.stateOf n = .ringing) :
    (s.dropBookings (· = n)).Unlisted n := by
  obtain ⟨hloads, hwithin⟩ := loads_dropBookings (· = n) h.loads h.within
  refine ⟨hloads, hwithin, by simp [dropBookings_booked], ?_, h.running (.inr (.inl hst))⟩
  exact h.waiting.trans (by simp [hst])

/-- R104: a line that leaves the wait list. -/
theorem State.Rings.dropWaits (h : s.Rings n) (hst : s.stateOf n = .ringWait) :
    (s.dropWaits (· = n)).Unlisted n :=
  ⟨h.loads, h.within, h.booked.trans (by simp [hst]), by simp [dropWaits_waiting], h.running (.inl hst)⟩

/-- A state that no list holds. -/
theorem State.Unlisted.rest (h : s.Unlisted n) (hst : s.stateOf n ≠ .ringing ∧ s.stateOf n ≠ .ringWait) :
    s.Rings n :=
  ⟨h.loads, h.within, h.booked.trans (if_neg hst.1).symm, h.waiting.trans (if_neg hst.2).symm,
    fun hoff => absurd h.running hoff, fun _ => hst.1⟩

theorem State.Unlisted.updLine (h : s.Unlisted n) (f : Line → Line) : (s.updLine n f).Unlisted n :=
  ⟨h.loads, h.within, h.booked, h.waiting, h.running⟩

/-- R103: the line goes on to a state that no list holds. -/
theorem State.Unlisted.enters (h : s.Unlisted n) {f : Line → Line}
    (hst : (f (s.line n)).sup.state ≠ .ringing ∧ (f (s.line n)).sup.state ≠ .ringWait) :
    (s.updLine n f).Rings n :=
  (h.updLine f).rest (by simpa [State.stateOf] using hst)

theorem State.Unlisted.guards (h : s.Unlisted n) (target : ExitTarget) : (s.guardWithRelease n target).Rings n :=
  h.enters (by simp)

theorem State.Unlisted.ringToIdle (h : s.Unlisted n) : (s.ringToIdle n).Rings n := by
  unfold State.ringToIdle
  split
  · exact h.guards .idle
  · exact h.enters (by simp)

/-- R94, R106: a booking at a rotation at which the party fits. -/
theorem State.Unlisted.book (h : s.Unlisted n) (hsource : s.source.state = .running) {p : Fin 4}
    {start r : FrameSlot} (hfit : s.search n p start = some r) (maxFrames : Nat) :
    (s.book n p r maxFrames).Rings n := by
  obtain ⟨-, -, hfits, -⟩ := searchFrom_some hfit
  refine ⟨fun k => addBooking_loads _ k (h.loads k), fun k => addBooking_within k hfits (h.within k), ?_, ?_,
    fun hoff => absurd h.running hoff, fun hoff => absurd hsource hoff⟩
  · have hb := h.booked
    simp_all [State.book, State.booked, State.stateOf, State.newBooking]
  · exact h.waiting.trans (by simp [State.book, State.stateOf])

/-- R106, R101, R102: a line that joins the wait list, wherever. -/
theorem State.Unlisted.waits (h : s.Unlisted n) (hwaiting : t.waiting n = s.waiting n + 1)
    (hst : t.stateOf n = .ringWait) (hsched : t.sched = { s.sched with waits := t.sched.waits })
    (hcontrol : t.control = s.control) : t.Rings n := by
  obtain ⟨hloads, hwithin, hb, hw, hrun⟩ := h
  refine ⟨?_, ?_, ?_, by rw [hwaiting, hw, if_pos hst], fun hoff => ?_, fun _ => by simp [hst]⟩
  · rw [LoadsMatch, hsched]
    exact hloads
  · rw [WithinCapacity, hsched, hcontrol]
    exact hwithin
  · rw [State.booked, hsched, hst]
    exact hb
  · rw [hcontrol] at hoff
    exact absurd hrun hoff

theorem joinTail_waiting (s : State) (e : WaitEntry) :
    (s.joinTail e).waiting e.line = s.waiting e.line + 1 := by
  simp [State.waiting]

theorem joinEvicted_waiting (s : State) (e : WaitEntry) (mark : EvictionMark) :
    (s.joinEvicted e mark).waiting e.line = s.waiting e.line + 1 := by
  unfold State.waiting State.joinEvicted
  cases hi : insertBehindLast mark.behind e s.sched.waits with
  | none => simp
  | some w =>
    obtain ⟨front, x, back, hs, rfl, -, -⟩ := insertBehindLast_some hi
    simp only [hs, Option.getD_some, List.map_append, List.map_cons, List.count_append, List.count_cons,
      beq_self_eq_true, if_true]
    omega

theorem State.Unlisted.waitAtTail (h : s.Unlisted n) (p : Fin 4) (maxFrames : Nat) :
    (s.waitAtTail n p maxFrames).Rings n :=
  h.waits (joinTail_waiting s (newWait n p maxFrames none)) (by simp [State.stateOf, State.waitAtTail]) rfl rfl

/-! ### A line that stays in its list, or in none -/

/-- The line keeps its state, or goes from one that no list holds to one that is no ringing state. -/
def LineState.FreeTo (st st' : LineState) : Prop :=
  st' = st ∨ (st ≠ .ringWait ∧ st ≠ .ringing) ∧ st' ≠ .ringWait ∧ st' ≠ .ringing ∧ st' ≠ .ringGuard

@[simp] theorem LineState.freeTo_iff {st st' : LineState} : st.FreeTo st' ↔ st' = st ∨
    (st ≠ .ringWait ∧ st ≠ .ringing) ∧ st' ≠ .ringWait ∧ st' ≠ .ringing ∧ st' ≠ .ringGuard := Iff.rfl

theorem State.Rings.of_sched (h : s.Rings n) (hsched : t.sched = s.sched) (hcontrol : t.control = s.control)
    (hsource : t.source = s.source) (hst : (s.stateOf n).FreeTo (t.stateOf n)) : t.Rings n := by
  obtain ⟨hloads, hwithin, hb, hw, hshelf, hrun⟩ := h
  rw [LoadsMatch, ← hsched] at hloads
  rw [WithinCapacity, ← hsched, ← hcontrol] at hwithin
  rw [State.booked, ← hsched] at hb
  rw [State.waiting, ← hsched] at hw
  rw [← hcontrol] at hshelf
  rw [← hsource] at hrun
  rcases hst with hst | ⟨⟨hnw, hnb⟩, hnw', hnb', hng'⟩
  · rw [← hst] at hb hw hshelf hrun
    exact ⟨hloads, hwithin, hb, hw, hshelf, hrun⟩
  · exact ⟨hloads, hwithin, (hb.trans (if_neg hnb)).trans (if_neg hnb').symm,
      (hw.trans (if_neg hnw)).trans (if_neg hnw').symm, fun _ => ⟨hnw', hnb', hng'⟩, fun _ => hnb'⟩

theorem State.Rings.updLine (h : s.Rings n) {f : Line → Line}
    (hst : (s.stateOf n).FreeTo (f (s.line n)).sup.state) : (s.updLine n f).Rings n :=
  h.of_sched rfl rfl rfl (by simpa [State.stateOf] using hst)

theorem State.Rings.report (h : s.Rings n) (m : LineNo) (r : Report) : (s.report m r).Rings n :=
  h.of_sched rfl rfl rfl (.inl (report_stateOf s m n r))

/-- Changes of bookings that leave their lines and what they take of the slots. -/
theorem State.Rings.mapBookings (h : s.Rings n) {f : Booking → Booking}
    (hf : ∀ b, (f b).line = b.line ∧ ∀ k, (f b).contribution k = b.contribution k) :
    State.Rings { s with sched.bookings := s.sched.bookings.map f } n := by
  obtain ⟨hloads, hwithin, hb, hw, hshelf, hsource⟩ := h
  refine ⟨fun k => (hloads k).trans ?_, hwithin, Eq.trans ?_ hb, hw, hshelf, hsource⟩
  · dsimp only
    rw [List.map_map]
    exact congrArg List.sum (List.map_congr_left fun b _ => ((hf b).2 k).symm)
  · exact congrArg (List.count n) (map_line_map (fun b => (hf b).1) _)

/-- Changes of wait entries that leave their lines. -/
theorem State.Rings.mapWaits (h : s.Rings n) {f : WaitEntry → WaitEntry} (hf : ∀ e, (f e).line = e.line) :
    State.Rings { s with sched.waits := s.sched.waits.map f } n := by
  obtain ⟨hloads, hwithin, hb, hw, hshelf, hsource⟩ := h
  exact ⟨hloads, hwithin, hb, Eq.trans (congrArg (List.count n) (map_line_map hf _)) hw, hshelf, hsource⟩

end

end Sys2Proof.Machine
end

section
/-! PROOFS. O55 at a sample and an order: each of them keeps the share of the line it is for. -/

namespace Sys2Proof.Machine

open Sys2Proof.Safety

section

variable {s : State} {n : LineNo}

/-! ### The items of a sample (R68) -/

theorem rings_itemClear (h : s.Rings n) : (s.itemClear n).Rings n := by
  by_cases hc : Calling s n
  · have hshelf := (works_itemClear s n).touches
    refine h.of_sched (itemClear_sched s n) hshelf.shelf.control hshelf.source ?_
    rw [itemClear_stateOf hc]
    rcases hc with hs | hs | hs | hs | hs | hs <;> simp [hs]
  · rwa [itemClear_of_not_calling hc]

theorem rings_pulseDialing (h : s.Rings n) : (s.pulseDialing n).Rings n := by
  unfold State.pulseDialing
  dsimp only
  split
  · exact h
  · split
    · exact (h.updLine (.inl rfl)).report n _
    · exact h.updLine (.inl rfl)

theorem rings_gapDialing (h : s.Rings n) : (s.gapDialing n).Rings n := by
  unfold State.gapDialing
  split
  · exact h
  · exact (h.updLine (.inl rfl)).report n _

theorem rings_startSeizing (h : s.Rings n) (hs : s.stateOf n = .idle) : (s.startSeizing n).Rings n :=
  h.updLine (by simp [hs])

theorem rings_itemClose (h : s.Rings n) (finished : Option (BreakClass × Nat)) :
    (s.itemClose n finished).Rings n := by
  unfold State.itemClose
  split
  case h_1 hs => exact rings_startSeizing h hs
  case h_2 hs => exact h.updLine (by simp [hs])
  case h_3 => exact rings_pulseDialing h
  case h_4 => exact rings_gapDialing h
  case h_5 => exact (h.updLine (.inl rfl)).report n _
  case h_6 => exact h.report n _
  case h_7 => exact rings_itemClear h
  case h_8 => exact h

theorem rings_itemOpen (h : s.Rings n) : (s.itemOpen n).Rings n := by
  unfold State.itemOpen
  split
  · next hs => exact h.updLine (by simp [hs])
  · exact h

theorem rings_endDigit (h : s.Rings n) : (s.endDigit n).Rings n := by
  have hrestart (time seconds : Nat) :
      (s.updLine n fun l => l.clearDigits.setDeadline .pdt time seconds).Rings n := h.updLine (.inl rfl)
  unfold State.endDigit
  dsimp only
  split
  · exact hrestart _ _
  · split
    · exact h
    · exact (hrestart _ _).report n _

/-- R115, R117: an answer without a guard. -/
theorem State.Unlisted.answerNow (h : s.Unlisted n) (how : AnswerKind) (frames : Nat) :
    (s.answerNow n how frames).Rings n :=
  (h.enters (f := fun l => { l.enterFresh .inCall .none with rel.pending := .none }) (by simp)).report n _

theorem rings_makeRinging (h : s.Rings n) (hs : s.stateOf n = .ringing) (ms : Nat) :
    (s.makeRinging n ms).Rings n := by
  unfold State.makeRinging
  split
  · exact h
  · split
    · exact (h.dropBookings hs).answerNow _ _
    · split
      · exact (h.dropBookings hs).answerNow _ _
      · exact h

theorem rings_makeWaiting (h : s.Rings n) (hs : s.stateOf n = .ringWait) (ms : Nat) :
    (s.makeWaiting n ms).Rings n := by
  unfold State.makeWaiting
  split
  · exact (h.dropWaits hs).answerNow _ _
  · exact h

theorem rings_itemMake (h : s.Rings n) (ms : Nat) (fresh : Bool) : (s.itemMake n ms fresh).Rings n := by
  unfold State.itemMake
  split
  case h_1 hs =>
    split
    · exact h
    · exact rings_startSeizing h hs
  case h_2 hs =>
    split
    · exact (h.updLine (by simp [hs])).report n _
    · exact h
  case h_3 =>
    split
    · exact rings_endDigit h
    · exact h
  case h_4 hs => exact rings_makeRinging h hs ms
  case h_5 hs => exact rings_makeWaiting h hs ms
  all_goals exact h

/-- R116: a trip takes the line from RINGING to RING GUARD. -/
theorem rings_itemTrip (h : s.Rings n) (now : Instant) : (s.itemTrip n now).Rings n := by
  unfold State.itemTrip
  split
  · next hs _ =>
    refine ((h.dropBookings hs).enters ?_).report n _
    dsimp only
    split
    · simp [Line.noticeReleased_state, Line.switchReleased]
    · simp
  · exact h

theorem rings_takeEvent (h : s.Rings n) (now : Instant) {e : Option LineEvent}
    (he : e = some .learned → s.stateOf n = .learning) : (s.takeEvent n now e).Rings n := by
  match e with
  | none => exact h
  | some .opened => exact rings_itemOpen h
  | some (.closed finished) => exact rings_itemClose h finished
  | some .trip => exact rings_itemTrip h now
  | some .learned => exact h.updLine (f := fun l => l.enter .idle .none) (by simp [he rfl])

theorem rings_takeClear (h : s.Rings n) (clear : Option Nat) : (s.takeClear n clear).Rings n := by
  match clear with
  | none => exact h
  | some _ => exact rings_itemClear h

theorem rings_takeElapsed (h : s.Rings n) (fresh : Bool) (e : Option Elapsed) :
    (s.takeElapsed n fresh e).Rings n := by
  match e with
  | none => exact h
  | some (.breakFor _) => exact h
  | some (.makeFor ms) => exact rings_itemMake h ms fresh

/-! ### The deadline, the guard and the test (R67, R118, R137) -/

theorem rings_expireToHowler (h : s.Rings n) (kind : DeadlineKind)
    (hs : s.stateOf n ≠ .ringWait ∧ s.stateOf n ≠ .ringing) : (s.expireToHowler n kind).Rings n :=
  (h.updLine (by simp [hs])).report n _

theorem rings_expire (h : s.Rings n) (kind : DeadlineKind) : (s.expire n kind).Rings n := by
  unfold State.expire
  split
  case h_1 hs | h_2 hs | h_3 hs => exact rings_expireToHowler h _ (by simp [hs])
  case h_4 hs => exact (h.updLine (by simp [hs])).report n _
  case h_5 => exact h.updLine (.inl rfl)

theorem rings_judgeDeadline (h : s.Rings n) : (s.judgeDeadline n).Rings n := by
  unfold State.judgeDeadline
  split
  · exact rings_expire h _
  · exact h

/-- R118, R102: a guard ends into a state that no list holds, or into the wait list. -/
theorem rings_endGuard (h : s.Rings n) (hs : s.stateOf n = .ringGuard) (target : ExitTarget) :
    (s.endGuard n target).Rings n := by
  have hu : s.Unlisted n := h.unlisted (h.running (.inr (.inr hs))) (by simp [hs])
  unfold State.endGuard
  split
  · exact hu.enters (by simp [Line.guardToCall])
  · exact hu.enters (by simp [Line.guardTo])
  · next mark party frames =>
    refine .report (hu.waits (joinEvicted_waiting (s.updLine n fun l => l.guardTo .ringWait)
      (newWait n party frames (some mark)) mark) ?_ rfl rfl) n _
    simp [State.stateOf, Line.guardTo]
  · next party frames =>
    refine .report (hu.waits (joinTail_waiting (s.updLine n fun l => l.guardTo .ringWait)
      (newWait n party frames none)) ?_ rfl rfl) n _
    simp [State.stateOf, Line.guardTo]

theorem rings_ignoredSample (h : s.Rings n) (now : Instant) (v : Nat) : (s.ignoredSample n now v).Rings n := by
  unfold State.ignoredSample
  split
  · next hg => exact rings_endGuard h (Line.guardOver_state hg) _
  · split
    · next hm =>
      split
      · have hs : s.stateOf n = .testing := Line.measured_state hm
        exact (h.updLine (by simp [hs, Line.endTest])).report n _
      · exact h.updLine (.inl rfl)
    · exact h

/-! ### A sample arrival (R40) -/

theorem rings_afterElapsed (h : s.Rings n) (v : Nat) : (s.afterElapsed n v).Rings n := by
  have h2 : (s.afterStage2 n v).Rings n := h.updLine (.inl rfl)
  refine rings_takeElapsed (rings_takeClear (rings_takeEvent h2 _ fun he => ?_) _) _ _
  rw [State.stateOf, State.afterStage2, State.updLine_line_same]
  exact Line.learning_of_mode (Classifier.stage2_learned he)

theorem rings_afterItems (h : s.Rings n) (v : Nat) : (s.afterItems n v).Rings n := by
  unfold State.afterItems
  split
  · exact rings_ignoredSample h _ v
  · exact h
  all_goals exact rings_afterElapsed h v

/-- R41, R44: stages 4 and 5 leave the state of the line and the lists. -/
theorem rings_stages (h : s.Rings n) (v : Nat) : (s.stages n v).Rings n := by
  have h3 : (s.afterStage3 n v).Rings n := rings_judgeDeadline (rings_afterItems h v)
  have h4 : (s.afterStage4 n v).Rings n := by
    unfold State.afterStage4
    split
    · have ht := (works_updateBaseline (s.afterStage3 n v) n v
        (closeThreshold (s.profileOf n) (s.line n).cls)).touches
      have ha := updateBaseline_alike (s.afterStage3 n v) n v (closeThreshold (s.profileOf n) (s.line n).cls)
      exact h3.of_sched ha.sched ht.shelf.control ht.source (.inl ha.stateOf)
    · exact h3
  have ht := (works_checkLeakage (s.afterStage4 n v) n).touches
  unfold State.stages
  split
  · exact h4.of_sched (checkLeakage_sched _ n) ht.shelf.control ht.source
      (.inl (congrArg Supervision.state (checkLeakage_sup _ n)))
  · exact h4

theorem rings_arrival (h : s.Rings n) (a : Option Byte) : (s.arrival n a).Rings n := by
  unfold State.arrival
  split
  · exact rings_stages (h.updLine (.inl rfl)) _
  · exact h

/-! ### The orders (R82 to R85, R105 to R108, R136) -/

/-- R82: a line taken out of both lists, for OUT OF SERVICE. -/
theorem rings_outOfService (h : s.Rings n) :
    (((s.dropBookings (· = n)).dropWaits (· = n)).updLine n Line.outOfService).Rings n := by
  obtain ⟨hloads, hwithin⟩ := loads_dropBookings (· = n) h.loads h.within
  have hb : (s.dropBookings (· = n)).booked n = 0 := by simp [dropBookings_booked]
  have hw : ((s.dropBookings (· = n)).dropWaits (· = n)).waiting n = 0 := by simp [dropWaits_waiting]
  have hst : (((s.dropBookings (· = n)).dropWaits (· = n)).updLine n Line.outOfService).stateOf n =
      .outOfService := by simp [State.stateOf]
  exact ⟨hloads, hwithin, hb.trans (by simp [hst]), hw.trans (by simp [hst]), fun _ => by simp [hst],
    fun _ => by simp [hst]⟩

theorem rings_orderService (h : s.Rings n) (value : Byte) : (s.orderService n value).state.Rings n := by
  unfold State.orderService
  split
  · unfold State.orderServiceOff
    split
    · exact h
    · exact rings_outOfService h
  · split
    · unfold State.orderServiceOn
      split
      · next hs =>
        split
        · exact h.updLine (by simp [hs])
        · exact h
      · exact h
    · exact h

theorem rings_orderConfigure (h : s.Rings n) (c : ConfigBytes) : (s.orderConfigure n c).state.Rings n := by
  unfold State.orderConfigure
  split
  · exact h
  · split
    · exact h.updLine (f := fun l => l.installConfig c) (.inl rfl)
    · next hs =>
      refine h.updLine (f := fun l => if profileGiven c = l.sup.profile then l.installConfig c
        else (l.installConfig c).enterLearning) ?_
      split
      · exact .inl rfl
      · simp [hs]
    · exact h

theorem rings_orderConnect (h : s.Rings n) : (s.orderConnect n).state.Rings n := by
  unfold State.orderConnect
  split
  case h_1 hs | h_2 hs => exact h.updLine (f := fun l => l.enterFresh .inCall .none) (by simp [hs])
  all_goals exact h

theorem rings_releaseLine (h : s.Rings n) (hs : s.stateOf n ≠ .ringWait ∧ s.stateOf n ≠ .ringing)
    (tone : Tone) : (s.releaseLine n tone).Rings n := by
  unfold State.releaseLine
  split
  · exact h.updLine (by simp [hs])
  · exact h.updLine (by simp [hs])

theorem rings_orderRelease (h : s.Rings n) (tone : Byte) : (s.orderRelease n tone).state.Rings n := by
  unfold State.orderRelease
  split
  · exact h
  · dsimp only
    split
    case h_1 hs | h_2 hs | h_3 hs => exact rings_releaseLine h (by simp [hs]) _
    all_goals exact h

theorem rings_ringIdle (h : s.Rings n) (hrun : s.control.shelf = .running) (hs : s.stateOf n = .idle)
    (p : Fin 4) (maxFrames : Nat) (o : OrderOutcome) : (s.ringIdle n p maxFrames o).state.Rings n := by
  have hu : s.Unlisted n := h.unlisted hrun (by simp [hs])
  unfold State.ringIdle
  split
  · next hsource =>
    split
    · next hfit => exact hu.book hsource hfit maxFrames
    · exact hu.waitAtTail p maxFrames
  · exact hu.waitAtTail p maxFrames

/-- R107: a RING while RINGING leaves what the booking takes of the slots. -/
theorem rings_ringAgain (h : s.Rings n) (p : Fin 4) (maxFrames : Nat) : (s.ringAgain n p maxFrames).Rings n :=
  h.mapBookings fun b => by split <;> exact ⟨rfl, fun _ => rfl⟩

theorem rings_ringWaiting (h : s.Rings n) (p : Fin 4) (maxFrames : Nat) : (s.ringWaiting n p maxFrames).Rings n :=
  h.mapWaits fun e => by split <;> rfl

theorem rings_orderRing (h : s.Rings n) (hrun : s.control.shelf = .running) (party maxFrames : Byte) :
    (s.orderRing n party maxFrames).state.Rings n := by
  unfold State.orderRing
  split
  · unfold State.ringParty
    split
    · exact h
    · split
      · exact h
      · next hstates =>
        split
        · exact h
        · dsimp only
          split
          · exact rings_ringAgain h _ _
          · exact rings_ringWaiting h _ _
          · next hb hw =>
            exact rings_ringIdle h hrun (by_contra fun hi => hstates ⟨hi, hb, hw⟩) _ _ _
  · exact h

theorem rings_orderStop (h : s.Rings n) : (s.orderStop n).state.Rings n := by
  unfold State.orderStop
  split
  case h_1 hs => exact (h.dropBookings hs).ringToIdle
  case h_2 hs => exact (h.dropWaits hs).enters (f := fun l => l.enterFresh .idle .none) (by simp)
  case h_3 =>
    exact h.updLine (f := fun l => { l with sup.guardRecord := l.sup.guardRecord.map GuardRecord.stopped })
      (.inl rfl)
  case h_4 => exact h

theorem rings_orderTest (h : s.Rings n) (now : Instant) : (s.orderTest n now).state.Rings n := by
  unfold State.orderTest
  split
  · exact h
  · split
    · exact h
    · next hs => exact h.updLine (f := fun l => l.startTest now) (by simp [not_not.1 hs, Line.startTest])

theorem rings_answer (h : s.Rings n) (hrun : s.control.shelf = .running) (o : Order) (now : Instant) :
    (s.answer n o now).state.Rings n := by
  match o with
  | .note => exact h
  | .service value => exact rings_orderService h value
  | .configure bytes => exact rings_orderConfigure h bytes
  | .ring party maxFrames => exact rings_orderRing h hrun party maxFrames
  | .stop => exact rings_orderStop h
  | .connect => exact rings_orderConnect h
  | .release tone => exact rings_orderRelease h tone
  | .test => exact rings_orderTest h now
  | .badKind _ => exact h

/-- R13: what is recorded of an order leaves the lists. -/
theorem State.Rings.taken {a : Answer} (h : a.state.Rings n) (kind seq : Byte) : (a.taken n kind seq).Rings n := by
  have hreports (rs : List Report) (t : State) (ht : t.Rings n) :
      (rs.foldl (fun s r => s.report n r) t).Rings n := by
    induction rs generalizing t with
    | nil => exact ht
    | cons r rs ih => exact ih _ (ht.report n r)
  exact hreports _ _ ((h.updLine (.inl rfl)).report n _)

end
end Sys2Proof.Machine
end

section
/-! PROOFS. O55, carried through the slot boundary, the ring source, the shelf and its cards, and every command. -/

namespace Sys2Proof.Machine

open Sys2Proof.Safety

section

variable {s t : State} {n : LineNo}

/-! ### Frame ends and relay requests (R110 to R112) -/

/-- R93: a line with a booking is RINGING. -/
theorem State.Rings.ringing (h : s.Rings n) {b : Booking} (hb : s.bookingOf n = some b) :
    s.stateOf n = .ringing := by
  by_contra hst
  have hzero := h.booked.trans (if_neg hst)
  have hline : b.line = n := by simpa using List.find?_some hb
  exact List.count_eq_zero.1 hzero (hline ▸ List.mem_map_of_mem (List.mem_of_find?_eq_some hb))

theorem rings_applyChange (h : s.Rings n) (hs : s.stateOf n = .ringing) (c : FrameSlot)
    (change : PendingChange) : (s.applyChange n c change).Rings n := by
  have hu := h.dropBookings hs
  unfold State.applyChange
  dsimp only
  split
  · next hfit => exact (hu.book (h.sourceRunning hs) hfit _).report n _
  · split
    · exact hu.guards _
    · exact (hu.waitAtTail _ _).report n _

theorem rings_frameEnd (h : s.Rings n) (c : FrameSlot) : (s.frameEnd c n).Rings n := by
  unfold State.frameEnd
  split
  · exact h
  · next b hb =>
    have hs := h.ringing hb
    split
    · exact ((h.dropBookings hs).ringToIdle).report n _
    · split
      · exact rings_applyChange h hs c _
      · exact h.mapBookings fun b => by split <;> exact ⟨rfl, fun _ => rfl⟩

/-- Operations of several lines, each of which keeps its own line's share. -/
theorem ringLists_foldl {f : State → LineNo → State} (hf : ∀ s n, Works n s (f s n))
    (hn : ∀ s n, s.Rings n → (f s n).Rings n) (ns : List LineNo) (hr : RingListsConsistent s) :
    RingListsConsistent (ns.foldl f s) := by
  induction ns generalizing s with
  | nil => exact hr
  | cons n ns ih => exact ih ((hf s n).touches.ringLists (hn s n) hr)

theorem ringLists_frameEnds (hr : RingListsConsistent s) (c : FrameSlot) :
    RingListsConsistent (s.frameEnds c) :=
  ringLists_foldl (works_frameEnd c) (fun _ _ h => rings_frameEnd h c) _ hr

theorem State.Rings.mapLines (h : s.Rings n) {g : LineNo → Line → Line}
    (hst : (s.stateOf n).FreeTo (g n (s.line n)).sup.state) : (s.mapLines g).Rings n :=
  h.of_sched (s.mapLines_sched g) (s.mapLines_control g) (s.mapLines_source g)
    (by simpa [State.stateOf] using hst)

theorem ringLists_relayRequests (hr : RingListsConsistent s) (c : FrameSlot) :
    RingListsConsistent (s.relayRequests c) := by
  refine ringListsConsistent_iff.2 fun n => ?_
  refine State.Rings.mapBookings (s := s.mapLines _) ((ringListsConsistent_iff.1 hr n).mapLines (.inl ?_))
    fun b => by split <;> exact ⟨rfl, fun _ => rfl⟩
  split
  · next b _ =>
    obtain ⟨a, ha⟩ := b.request_eq c (s.line n)
    rw [ha]
    rfl
  · rfl

/-! ### Frame boundary work (R113, R100 to R102, R119) -/

theorem rings_endWait (h : s.Rings n) (hs : s.stateOf n = .ringWait) : (s.endWait n).Rings n :=
  ((h.dropWaits hs).enters (f := fun l => l.enterFresh .idle .none) (by simp)).report n _

/-- R113: each of the leavers is in RING WAIT when its turn comes, since no line stands in the list twice. -/
theorem ringLists_endWaits {ns : List LineNo} (hnodup : ns.Nodup) (hst : ∀ n ∈ ns, s.stateOf n = .ringWait)
    (hr : RingListsConsistent s) : RingListsConsistent (ns.foldl State.endWait s) := by
  induction ns generalizing s with
  | nil => exact hr
  | cons n ns ih =>
    obtain ⟨hn, hnodup⟩ := List.nodup_cons.1 hnodup
    have ht := (works_endWait s n).touches
    refine ih hnodup (fun m hm => ?_) (ht.ringLists (fun h => rings_endWait h (hst n (by simp))) hr)
    rw [ht.stateOf fun e => hn (e ▸ hm)]
    exact hst m (by simp [hm])

/-- R113: the wait list with the entries of the lines `begun` counted. -/
def State.aged (s : State) (begun : List LineNo) : State :=
  { s with sched.waits := s.sched.waits.map fun e : WaitEntry =>
      (if e.line ∈ begun then e.counted s.control.params.priorityAge else e) }

/-- R113: the lines that leave, whose entries have reached the wait limit. -/
def State.leavers (s : State) : List LineNo :=
  (s.sched.waits.filter fun e => decide (s.control.params.waitLimit ≤ e.framesWaited)).map WaitEntry.line

theorem countWaits_eq (s : State) (begun : List LineNo) :
    s.countWaits begun = (s.aged begun).leavers.foldl State.endWait (s.aged begun) := rfl

theorem mem_waits_of_leavers (h : n ∈ s.leavers) : n ∈ s.sched.waits.map WaitEntry.line :=
  List.map_subset _ List.filter_sublist.subset h

theorem leavers_nodup (h : (s.sched.waits.map WaitEntry.line).Nodup) : s.leavers.Nodup :=
  h.sublist (List.filter_sublist.map _)

theorem ringLists_aged (hr : RingListsConsistent s) (begun : List LineNo) :
    RingListsConsistent (s.aged begun) :=
  ringListsConsistent_iff.2 fun n => (ringListsConsistent_iff.1 hr n).mapWaits fun e => by split <;> rfl

theorem ringLists_countWaits (hr : RingListsConsistent s) (begun : List LineNo) :
    RingListsConsistent (s.countWaits begun) := by
  have h1 := ringLists_aged hr begun
  have ⟨_, _, ⟨_, hw, _, hnodup⟩, _⟩ := h1
  rw [countWaits_eq]
  exact ringLists_endWaits (leavers_nodup hnodup) (fun n hn => (hw n).1 (mem_waits_of_leavers hn)) h1

section

variable (s : State) (early late : List BusWrite)

@[simp] theorem loadMeeting_line (n : LineNo) : (s.loadMeeting early late).line n = s.line n := by
  simp [State.loadMeeting]

@[simp] theorem loadMeeting_bookings : (s.loadMeeting early late).sched.bookings = s.sched.bookings := by
  simp [State.loadMeeting]

@[simp] theorem loadMeeting_loads : (s.loadMeeting early late).sched.loads = s.sched.loads := by
  simp [State.loadMeeting]

@[simp] theorem loadMeeting_waits : (s.loadMeeting early late).sched.waits =
    s.sched.waits.map fun e => e.judged (s.writes early).loadedParams.priorityAge := by
  simp [State.loadMeeting]

@[simp] theorem loadMeeting_shelf : (s.loadMeeting early late).control.shelf = s.control.shelf := by
  simp [State.loadMeeting, State.loadParams]

@[simp] theorem loadMeeting_source : (s.loadMeeting early late).source = s.source := by
  simp [State.loadMeeting]

end

theorem ringLists_landed (hr : RingListsConsistent s) (early late : List BusWrite) :
    RingListsConsistent (s.landed early late) := by
  refine ringListsConsistent_iff.2 fun n => (ringListsConsistent_iff.1 hr n).of_sched ?_ ?_ ?_ (.inl ?_)
  · simp [State.landed]
  · simp [State.landed]
  · simp [State.landed]
  · simp [State.landed, State.stateOf]

/-- R100: the eviction stops at the first state of the table that is within the capacity, and there is one. -/
theorem evictCount_spec (capacity : Nat) (newest : List Booking) (loads : Vector Nat 12)
    (h : ∀ k : FrameSlot, loads[k] = (newest.map fun b => b.contribution k).sum) :
    evictCount capacity newest loads ≤ newest.length ∧
      (∀ k : FrameSlot,
        ((newest.drop (evictCount capacity newest loads)).map fun b => b.contribution k).sum ≤ capacity) ∧
      (evictCount capacity newest loads ≠ 0 → ∃ k : FrameSlot, capacity <
        ((newest.drop (evictCount capacity newest loads - 1)).map fun b => b.contribution k).sum) := by
  induction newest generalizing loads with
  | nil => simp [evictCount]
  | cons b newest ih =>
    have hsub (k : FrameSlot) : (subLoad loads b)[k] = (newest.map fun b => b.contribution k).sum := by
      rw [subLoad_get, h k, List.map_cons, List.sum_cons, Nat.add_sub_cancel_left]
    obtain ⟨hle, hwithin, hover⟩ := ih _ hsub
    unfold evictCount
    by_cases ho : overCapacity loads capacity = true
    · rw [if_pos ho]
      refine ⟨Nat.succ_le_succ hle, hwithin, fun _ => ?_⟩
      rcases Nat.eq_zero_or_pos (evictCount capacity newest (subLoad loads b)) with hz | hpos
      · obtain ⟨k, -, hk⟩ := List.any_eq_true.1 ho
        refine ⟨k, ?_⟩
        rw [hz, Nat.zero_add, Nat.sub_self, List.drop_zero, ← h k]
        exact of_decide_eq_true hk
      · obtain ⟨k, hk⟩ := hover hpos.ne'
        refine ⟨k, ?_⟩
        rwa [Nat.add_sub_cancel, ← Nat.sub_add_cancel hpos, List.drop_succ_cons]
    · rw [if_neg ho]
      refine ⟨Nat.zero_le _, fun k => ?_, fun hne => absurd rfl hne⟩
      rw [List.drop_zero, ← h k]
      have hk : overCapacity loads capacity = false := by simpa using ho
      simpa using (List.any_eq_false.1 hk) k (List.mem_finRange k)

/-- R100: how many bookings an eviction leaves. -/
def State.keptCount (s : State) : Nat :=
  s.sched.bookings.length - evictCount s.control.params.capacity s.sched.bookings.reverse s.sched.loads

/-- R100: the bookings that an eviction leaves. -/
def State.kept (s : State) : List Booking := s.sched.bookings.take s.keptCount

/-- R100: the bookings that it evicts, the oldest first. -/
def State.evicted (s : State) : List Booking := s.sched.bookings.drop s.keptCount

theorem kept_append_evicted (s : State) : s.kept ++ s.evicted = s.sched.bookings := List.take_append_drop _ _

/-- R94, R100: the state with the evicted bookings off the list and the table. -/
def State.struck (s : State) : State :=
  { s with sched.bookings := s.kept, sched.loads := s.evicted.foldl subLoad s.sched.loads }

theorem evict_eq (s : State) :
    s.evict = (s.struck.evictLines s.evicted 1).reportEvicted (s.evicted.map Booking.line) := rfl

theorem sum_kept_evicted (s : State) (k : FrameSlot) : (s.sched.bookings.map fun b => b.contribution k).sum =
    (s.kept.map fun b => b.contribution k).sum + (s.evicted.map fun b => b.contribution k).sum := by
  rw [← kept_append_evicted, List.map_append, List.sum_append]

/-- R94: the table matches the bookings that are left. -/
theorem struck_loads (h : LoadsMatch s) : LoadsMatch s.struck := fun k => by
  refine (foldl_subLoad_get s.evicted s.sched.loads k).trans ?_
  rw [h k, sum_kept_evicted, Nat.add_sub_cancel]
  rfl

theorem loads_eq_reverse (h : LoadsMatch s) (k : FrameSlot) :
    s.sched.loads[k] = (s.sched.bookings.reverse.map fun b => b.contribution k).sum := by
  rw [h k, List.map_reverse, List.sum_reverse]

/-- R100: the bookings that are left are within the capacity in every slot. -/
theorem kept_within (h : LoadsMatch s) (k : FrameSlot) :
    (s.kept.map fun b => b.contribution k).sum ≤ s.control.params.capacity := by
  obtain ⟨-, hwithin, -⟩ := evictCount_spec s.control.params.capacity _ _ (loads_eq_reverse h)
  have hk := hwithin k
  rwa [List.drop_reverse, List.map_reverse, List.sum_reverse] at hk

/-- R100: with the oldest of the evicted bookings some slot would be above the capacity. -/
theorem evicted_over (h : LoadsMatch s) {b : Booking} (hb : s.evicted.head? = some b) :
    ∃ k : FrameSlot, s.control.params.capacity <
      (s.kept.map fun b => b.contribution k).sum + b.contribution k := by
  obtain ⟨hle, -, hover⟩ := evictCount_spec s.control.params.capacity _ _ (loads_eq_reverse h)
  rw [List.length_reverse] at hle
  have hi : s.sched.bookings[s.keptCount]? = some b := by rwa [State.evicted, List.head?_drop] at hb
  have hlt : s.keptCount < s.sched.bookings.length := (List.getElem?_eq_some_iff.1 hi).1
  unfold State.keptCount at hlt
  obtain ⟨k, hk⟩ := hover (by omega)
  refine ⟨k, ?_⟩
  have hcount : s.sched.bookings.length -
      (evictCount s.control.params.capacity s.sched.bookings.reverse s.sched.loads - 1) = s.keptCount + 1 := by
    unfold State.keptCount
    omega
  rw [List.drop_reverse, List.map_reverse, List.sum_reverse, hcount, List.take_add_one, hi] at hk
  simpa [State.kept] using hk

theorem Touches.unlisted {m : LineNo} (h : Touches n s t) (hm : m ≠ n) (hloads : LoadsMatch t)
    (hwithin : WithinCapacity t) (hu : s.Unlisted m) : t.Unlisted m :=
  ⟨hloads, hwithin, (h.booked hm).trans hu.booked, (h.waiting hm).trans hu.waiting, by
    rw [h.shelf.control]
    exact hu.running⟩

/-- R101, R102: an evicted line goes to RING GUARD or into the wait list. -/
theorem State.Unlisted.evictLine {b : Booking} (h : s.Unlisted b.line) (mark : EvictionMark) :
    (s.evictLine b mark).Rings b.line := by
  unfold State.evictLine
  dsimp only
  split
  · exact h.guards _
  · exact h.waits (joinEvicted_waiting s (newWait b.line b.waiting.1 b.waiting.2 (some mark)) mark)
      (by simp [State.stateOf]) rfl rfl

/-- R101: the evicted lines, none of them twice, are dealt with one after the other. -/
theorem ringLists_evictLines {bs : List Booking} (hnodup : (bs.map Booking.line).Nodup) (rank : Nat)
    (h : ∀ n, (n ∈ bs.map Booking.line → s.Unlisted n) ∧ (n ∉ bs.map Booking.line → s.Rings n)) :
    RingListsConsistent (s.evictLines bs rank) := by
  induction bs generalizing s rank with
  | nil => exact ringListsConsistent_iff.2 fun n => (h n).2 (by simp)
  | cons b bs ih =>
    obtain ⟨hb, hnodup⟩ := List.nodup_cons.1 hnodup
    have ht := (works_evictLine s b { time := s.shelfTime, rank := rank }).touches
    have hring := ((h b.line).1 (by simp)).evictLine { time := s.shelfTime, rank := rank }
    refine ih hnodup (rank + 1) fun n => ⟨fun hn => ?_, fun hn => ?_⟩
    · have hne : n ≠ b.line := fun e => hb (e ▸ hn)
      exact ht.unlisted hne hring.loads hring.within ((h n).1 (List.mem_cons_of_mem _ hn))
    · by_cases hne : n = b.line
      · exact hne ▸ hring
      · exact ht.rings hne hring.loads hring.within ((h n).2 (by simpa using ⟨hne, by simpa using hn⟩))

theorem works_reportEvicted (s : State) (n : LineNo) :
    Works n s (if s.stateOf n = .ringWait then s.reportQueued n .evicted else s) := by
  split
  · exact works_reportQueued s n .evicted
  · exact .refl n s

theorem ringLists_reportEvicted (hr : RingListsConsistent s) (ns : List LineNo) :
    RingListsConsistent (s.reportEvicted ns) :=
  ringLists_foldl works_reportEvicted (fun t n h => by
    split
    · exact h.report n _
    · exact h) ns hr

/-- R100 to R102: an eviction brings the table within the capacity, whatever a load has made of that. -/
theorem ringLists_evict (hloads : LoadsMatch s) (hlists : ListsMatchStates s)
    (hrunning : RingingOnlyWhileRunning s) : RingListsConsistent s.evict := by
  have hstruck := struck_loads hloads
  have hwithin : WithinCapacity s.struck := fun k => (hstruck k).trans_le (kept_within hloads k)
  obtain ⟨hb, hw, hbn, hwn⟩ := hlists
  have hsplit : s.kept.map Booking.line ++ s.evicted.map Booking.line = s.sched.bookings.map Booking.line := by
    rw [← List.map_append, kept_append_evicted]
  rw [← hsplit] at hb hbn
  have hwait (n : LineNo) : s.struck.waiting n = if s.struck.stateOf n = .ringWait then 1 else 0 :=
    count_lines_iff.1 ⟨hw, hwn⟩ n
  have hcount (n : LineNo) : s.struck.booked n + (s.evicted.map Booking.line).count n =
      if s.struck.stateOf n = .ringing then 1 else 0 := by
    rw [State.booked, ← List.count_append]
    exact count_lines_iff.1 ⟨hb, hbn⟩ n
  obtain ⟨-, hevicted, -⟩ := List.nodup_append.1 hbn
  rw [evict_eq]
  refine ringLists_reportEvicted (ringLists_evictLines hevicted 1 fun n => ⟨fun hn => ?_, fun hn => ?_⟩) _
  · have hst : s.struck.stateOf n = .ringing := (hb n).1 (List.mem_append_right _ hn)
    have hone := hcount n
    rw [if_pos hst, hevicted.count, if_pos hn] at hone
    refine ⟨hstruck, hwithin, by omega, (hwait n).trans (by simp [hst]), ?_⟩
    by_contra hoff
    obtain ⟨-, hnot, -⟩ := not_ringing_of_off hrunning hoff n
    exact hnot hst
  · have hzero := hcount n
    rw [List.count_eq_zero.2 hn, Nat.add_zero] at hzero
    refine ⟨hstruck, hwithin, hzero, hwait n, fun hoff => not_ringing_of_off hrunning hoff n, fun hoff hst => ?_⟩
    have hmem := (hb n).2 hst
    rw [hsplit, hrunning.2 hoff] at hmem
    cases hmem

theorem ringLists_reloadChanges (hr : RingListsConsistent s) : RingListsConsistent s.reloadChanges :=
  ringListsConsistent_iff.2 fun n => (ringListsConsistent_iff.1 hr n).mapBookings fun b => by
    split <;> exact ⟨rfl, fun _ => rfl⟩

/-- R20, R22: a load may lower the capacity below what is booked; the eviction that follows makes up for it. -/
theorem ringLists_reloadCheck (hr : RingListsConsistent s) (early late : List BusWrite) :
    RingListsConsistent (s.reloadCheck early late) := by
  unfold State.reloadCheck
  split
  · exact ringLists_landed hr early late
  · obtain ⟨hloads, -, hlists, hrunning⟩ := hr
    refine ringLists_reloadChanges (ringLists_evict ?_ ?_ ?_)
    · simpa [LoadsMatch] using hloads
    · simpa [ListsMatchStates, State.stateOf, WaitEntry.judged, Function.comp_def] using hlists
    · simpa [RingingOnlyWhileRunning, State.stateOf] using hrunning

/-! ### The walk, and the boundary (R109, R114) -/

theorem rings_walkBook {e : WaitEntry} (h : s.Rings e.line) (hs : s.stateOf e.line = .ringWait)
    (hsource : s.source.state = .running) {c r : FrameSlot} (hfit : s.search e.line e.party c = some r) :
    (s.walkBook c e r).Rings e.line := by
  have hbook := ((h.dropWaits hs).book hsource hfit e.maxFrames).report e.line (.ringBooked (r - c).val r)
  unfold State.walkBook
  dsimp only
  split
  · exact State.Rings.updLine (hbook.mapBookings fun b => by split <;> exact ⟨rfl, fun _ => rfl⟩) (.inl rfl)
  · exact hbook

/-- R114: each entry that is tried stands for a line in RING WAIT, since no line stands in the list twice. -/
theorem ringLists_walk (c : FrameSlot) {es : List WaitEntry} (hnodup : (es.map WaitEntry.line).Nodup)
    (hst : ∀ e ∈ es, s.stateOf e.line = .ringWait) (hsource : s.source.state = .running)
    (hr : RingListsConsistent s) : RingListsConsistent (State.walk c es s) := by
  induction es generalizing s with
  | nil => exact hr
  | cons e es ih =>
    obtain ⟨he, hnodup⟩ := List.nodup_cons.1 hnodup
    unfold State.walk
    split
    · next r hfit =>
      have ht := (works_walkBook s c e r).touches
      refine ih hnodup (fun x hx => ?_) (ht.source ▸ hsource)
        (ht.ringLists (fun h => rings_walkBook h (hst e (by simp)) hsource hfit) hr)
      rw [ht.stateOf fun h => he (h ▸ List.mem_map_of_mem hx)]
      exact hst x (by simp [hx])
    · split
      · exact hr
      · exact ih hnodup (fun x hx => hst x (by simp [hx])) hsource hr

theorem ringLists_boundaryTail (hr : RingListsConsistent s) (c : FrameSlot) (begun : List LineNo)
    (early late : List BusWrite) : RingListsConsistent (s.boundaryTail c begun early late) := by
  have hwalk {t : State} (ht : RingListsConsistent t) :
      RingListsConsistent (if t.source.state = .running then State.walk c t.sched.waits t else t) := by
    split
    · next hsource =>
      have ⟨_, _, ⟨_, hw, _, hnodup⟩, _⟩ := ht
      exact ringLists_walk c hnodup (fun e he => (hw _).1 (List.mem_map_of_mem he)) hsource ht
    · exact ht
  unfold State.boundaryTail
  dsimp only
  refine hwalk ?_
  split
  · exact ringLists_reloadCheck (ringLists_countWaits hr begun) early late
  · exact ringLists_landed hr early late

theorem ringLists_boundary (hr : RingListsConsistent s) (first : Bool) (time : Nat)
    (early late : List BusWrite) : RingListsConsistent (s.boundary first time early late) := by
  have hclock : RingListsConsistent { s with
      sched.slot := s.nextSlot first, sched.nextBoundary := some (time + Config.slotMs) } := hr
  unfold State.boundary
  exact ringLists_boundaryTail (ringLists_relayRequests (ringLists_frameEnds hclock _) _) _ _ early late

theorem ringLists_takeBoundary (hr : RingListsConsistent s) (early late : List BusWrite) :
    RingListsConsistent (s.takeBoundary early late) := by
  unfold State.takeBoundary
  split
  · exact ringLists_boundary hr false _ early late
  · exact ringLists_landed hr early late

theorem ringLists_enterRunning (hr : RingListsConsistent s) (early late : List BusWrite) :
    RingListsConsistent (s.enterRunning early late) := by
  obtain ⟨hloads, hwithin, hlists, -, hsource⟩ := hr
  exact ringLists_boundary (s := { s with control.shelf := .running, control.startingEnd := none })
    ⟨hloads, hwithin, hlists, fun h => absurd rfl h, hsource⟩ true _ early late

/-! ### The ring source (R123 to R126) -/

/-- R123: a crossing takes no source out of RUNNING. -/
theorem judge_of_running {m : SourceMonitor} (h : m.state = .running) (halfPeriod : Nat) (now : Instant) :
    (m.judge halfPeriod now).1 = .running := by
  simp [SourceMonitor.judge, h]

theorem ringLists_takeCrossing (hr : RingListsConsistent s) (now : Instant) :
    RingListsConsistent (s.takeCrossing now) := by
  have h1 : RingListsConsistent { s with source := s.source.crossed s.control.params.halfPeriod now } := by
    obtain ⟨hloads, hwithin, hlists, hoff, hsource⟩ := hr
    exact ⟨hloads, hwithin, hlists, hoff, fun h => hsource fun hrun => h (judge_of_running hrun _ _)⟩
  unfold State.takeCrossing
  dsimp only
  split
  · exact ringListsConsistent_iff.2 fun n =>
      (ringListsConsistent_iff.1 h1 n).mapLines (.inl (Line.atCrossing_state _ now _))
  · exact h1

/-- R126: the moved lines are in RING WAIT, and nothing else of the lists and the states changes. -/
theorem foldl_queueDown (ns : List LineNo) (s : State) : (ns.foldl State.queueDown s).sched = s.sched ∧
    (ns.foldl State.queueDown s).control = s.control ∧
    ∀ m, (ns.foldl State.queueDown s).stateOf m = if m ∈ ns then .ringWait else s.stateOf m := by
  induction ns generalizing s with
  | nil => simp
  | cons n ns ih =>
    obtain ⟨hsched, hcontrol, hst⟩ := ih (s.queueDown n)
    refine ⟨hsched, hcontrol, fun m => ?_⟩
    have hone : (s.queueDown n).stateOf m = if m = n then .ringWait else s.stateOf m := by
      rw [State.queueDown, State.reportQueued, report_stateOf, State.stateOf, State.updLine_line]
      split <;> rfl
    rw [List.foldl_cons, hst, hone]
    by_cases hm : m = n <;> simp [hm]

/-- R126: the ring lists after a failure of the source, before the lines of the bookings change. -/
def State.moved (s : State) (now : Instant) : State :=
  { s.mapLines (fun _ l => l.atFailure now s.control.params.guardTime) with
    sched := { s.sched with
      waits := s.sched.bookings.map Booking.toWait ++ s.sched.waits, bookings := []
      loads := Vector.replicate 12 0 } }

theorem failSource_eq (s : State) (now : Instant) : s.failSource now =
    (s.sched.bookings.map Booking.line).foldl State.queueDown (s.moved now) := by
  unfold State.failSource State.moved
  simp only [State.mapLines_sched]

theorem moved_line (s : State) (now : Instant) (n : LineNo) :
    (s.moved now).line n = (s.line n).atFailure now s.control.params.guardTime :=
  (State.line_congr (s := s.mapLines fun _ l => l.atFailure now s.control.params.guardTime)
    (t := s.moved now) rfl n).trans (State.mapLines_line s _ n)

/-- R126: after a failure of the source no line is RINGING, and every line that was is in RING WAIT. -/
theorem failSource_stateOf (hlists : ListsMatchStates s) (now : Instant) (n : LineNo) :
    (s.failSource now).stateOf n = if s.stateOf n = .ringing then .ringWait else s.stateOf n := by
  obtain ⟨-, -, hst⟩ := foldl_queueDown (s.sched.bookings.map Booking.line) (s.moved now)
  have hmoved : (s.moved now).stateOf n = s.stateOf n := by
    rw [State.stateOf, moved_line, Line.atFailure_state, State.stateOf]
  rw [failSource_eq, hst, hmoved]
  exact if_congr (hlists.1 n) rfl rfl

/-- R126: a failure of the source moves every booking to the wait list. -/
theorem ringLists_failSource (hlists : ListsMatchStates s) (hoff : s.control.shelf ≠ .running →
      ∀ n, s.stateOf n ≠ .ringWait ∧ s.stateOf n ≠ .ringing ∧ s.stateOf n ≠ .ringGuard) (now : Instant) :
    RingListsConsistent (s.failSource now) := by
  obtain ⟨hsched, hcontrol, -⟩ := foldl_queueDown (s.sched.bookings.map Booking.line) (s.moved now)
  rw [← failSource_eq] at hsched hcontrol
  have hstate := failSource_stateOf hlists now
  have hne (n : LineNo) : (s.failSource now).stateOf n ≠ .ringing := by
    rw [hstate]
    split
    · decide
    · assumption
  obtain ⟨hb, hw, hbn, hwn⟩ := hlists
  refine ringListsConsistent_iff.2 fun n => ⟨fun k => ?_, fun k => ?_, ?_, ?_, fun hoff' => ?_, fun _ => hne n⟩
  · simp [hsched, State.moved]
  · simp [hsched, State.moved]
  · rw [if_neg (hne n), State.booked, hsched]
    rfl
  · have hcount : (s.failSource now).waiting n =
        (s.sched.bookings.map Booking.line).count n + (s.sched.waits.map WaitEntry.line).count n := by
      rw [State.waiting, hsched]
      simp [State.moved, Booking.toWait, newWait, Function.comp_def]
    rw [hcount, count_lines_iff.1 ⟨hb, hbn⟩ n, count_lines_iff.1 ⟨hw, hwn⟩ n, hstate]
    cases s.stateOf n <;> rfl
  · rw [hcontrol] at hoff'
    obtain ⟨hnw, hnb, hng⟩ := hoff hoff' n
    rw [hstate, if_neg hnb]
    exact ⟨hnw, hnb, hng⟩

theorem ringLists_expireLoss (hr : RingListsConsistent s) (now : Instant) :
    RingListsConsistent (s.expireLoss now) := by
  have ⟨hloads, hwithin, hlists, hrunning⟩ := hr
  have hstates := not_ringing_of_off hrunning
  unfold State.expireLoss
  split
  · next hq => exact ⟨hloads, hwithin, hlists, hrunning.1, fun _ => hrunning.2 (by simp [hq])⟩
  · exact ringLists_failSource (s := { s with source := .lost .failed }) hlists hstates now
  · exact hr
  · exact hr

/-! ### The shelf and its cards (R16 to R19, R29, R33) -/

/-- Nothing is booked, nothing waits, and no line is in a ringing state. -/
theorem ringLists_of_rest (hb : s.sched.bookings = []) (hw : s.sched.waits = [])
    (hloads : ∀ k : FrameSlot, s.sched.loads[k] = 0)
    (hst : ∀ n, s.stateOf n ≠ .ringWait ∧ s.stateOf n ≠ .ringing ∧ s.stateOf n ≠ .ringGuard) :
    RingListsConsistent s := by
  refine ringListsConsistent_iff.2 fun n => ?_
  obtain ⟨hnw, hnb, hng⟩ := hst n
  exact ⟨fun k => by simp [hloads k, hb], fun k => by simp [hloads k], by simp [State.booked, hb, hnb],
    by simp [State.waiting, hw, hnw], fun _ => hst n, fun _ => hnb⟩

theorem Line.halted_state (l : Line) : l.halted.sup.state = .outOfService ∨ l.halted.sup.state = .idle := by
  simp only [Line.halted]
  split
  · exact .inl rfl
  · exact .inr rfl

theorem ringLists_haltShelf (s : State) : RingListsConsistent s.haltShelf := by
  refine ringLists_of_rest rfl rfl (fun k => ?_) fun n => ?_
  · simp [State.haltShelf, Scheduler.idle]
  · rw [State.stateOf, haltShelf_line]
    rcases (s.line n).halted_state with h | h <;> simp [h]

theorem ringLists_softReset (s : State) : RingListsConsistent s.softReset := by
  have hsched : s.softReset.sched = .idle := by rw [softReset_eq]
  refine ringLists_of_rest (by rw [hsched]; rfl) (by rw [hsched]; rfl) (fun k => ?_) fun n => ?_
  · rw [hsched]
    simp [Scheduler.idle]
  · rw [State.stateOf, softReset_line]
    simp [Line.softReset]

/-- R16: before a start nothing is booked and nothing waits, whatever capacity its load installs. -/
theorem ringLists_startShelf (hr : RingListsConsistent s) (hhalted : s.control.shelf = .halted)
    (early late : List BusWrite) : RingListsConsistent (s.startShelf early late) := by
  obtain ⟨hloads, -, -, hoff, -⟩ := hr
  obtain ⟨hb, hw, hst⟩ := hoff (by simp [hhalted])
  have hline (n : LineNo) : (s.startShelf early late).line n = (s.line n).startRun :=
    (State.line_congr (s := (s.loadMeeting early late).mapLines fun _ l => l.startRun)
      (t := s.startShelf early late) rfl n).trans (by simp)
  refine ringLists_of_rest ?_ ?_ (fun k => ?_) fun n => ?_
  · simp [State.startShelf, hb]
  · simp [State.startShelf, hw]
  · have hk := hloads k
    rw [hb] at hk
    simpa [State.startShelf] using hk
  · rw [State.stateOf, hline, Line.startRun]
    split
    · exact hst n
    · simp

theorem ringLists_writeControl (hr : RingListsConsistent s) (run ie : Bool) (early late : List BusWrite) :
    RingListsConsistent (s.writeControl run ie early late) := by
  have h1 : RingListsConsistent { s with port.run := run, port.interruptEnable := ie } := hr
  unfold State.writeControl
  dsimp only
  split
  · split
    · next hhalted => exact ringLists_startShelf h1 hhalted early late
    · exact ringLists_landed h1 early late
  · split
    · exact h1
    · exact ringLists_haltShelf _

/-- R29 to R31: the lines of a lost card leave both lists. -/
theorem ringLists_loseCard (hr : RingListsConsistent s) (c : CardNo) : RingListsConsistent (s.loseCard c) := by
  have hs := ringListsConsistent_iff.1 hr
  obtain ⟨hloads, hwithin, -, -, -⟩ := hr
  obtain ⟨-, hwithin'⟩ := loads_dropBookings (fun n => decide (cardOf n = c)) hloads hwithin
  have hb (n : LineNo) : (s.loseCard c).booked n = if cardOf n = c then 0 else s.booked n := by
    rw [State.booked, State.loseCard, State.mapLines_sched]
    exact (dropBookings_booked s (fun n => decide (cardOf n = c)) n).trans (by simp)
  have hw (n : LineNo) : (s.loseCard c).waiting n = if cardOf n = c then 0 else s.waiting n := by
    rw [State.waiting, State.loseCard, State.mapLines_sched]
    exact (dropWaits_waiting s (fun n => decide (cardOf n = c)) n).trans (by simp)
  have hcontrol : (s.loseCard c).control = s.control := by rw [loseCard_eq]
  have hsource : (s.loseCard c).source = s.source := by rw [loseCard_eq]
  have hst (n : LineNo) :
      (s.loseCard c).stateOf n = if cardOf n = c then .outOfService else s.stateOf n := by
    rw [State.stateOf, loseCard_line]
    split
    · exact Line.cardLost_state _ _ _
    · rfl
  have hwithin : WithinCapacity (s.loseCard c) := by
    rw [WithinCapacity, hcontrol, State.loseCard, State.mapLines_sched]
    exact hwithin'
  refine ringListsConsistent_iff.2 fun n => ?_
  obtain ⟨-, -, hbn, hwn, hoff, hdown⟩ := hs n
  refine ⟨loseCard_loadsMatch c hloads, hwithin, ?_, ?_, ?_, ?_⟩ <;>
    simp only [hb, hw, hcontrol, hsource, hst] <;> split
  · rfl
  · exact hbn
  · rfl
  · exact hwn
  · simp
  · exact hoff
  · simp
  · exact hdown

theorem ringLists_returnCard (hr : RingListsConsistent s) (c : CardNo) :
    RingListsConsistent (s.returnCard c) := by
  refine ringListsConsistent_iff.2 fun n => (ringListsConsistent_iff.1 hr n).of_sched ?_ ?_ ?_ (.inl ?_)
  · simp [State.returnCard]
  · simp [State.returnCard]
  · simp [State.returnCard]
  · rw [State.stateOf, returnCard_line]
    split <;> rfl

/-! ### The visit, and every command -/

/-- R13: an order is taken only while the shelf is RUNNING. -/
theorem ringLists_taken (hr : RingListsConsistent s) (hrun : s.control.shelf = .running) (n : LineNo) (o : Order)
    (now : Instant) (kind seq : Byte) : RingListsConsistent ((s.answer n o now).taken n kind seq) :=
  ((works_answer s n o now).taken kind seq).touches.ringLists
    (fun h => (rings_answer h hrun o now).taken kind seq) hr

theorem ringLists_consistentRead (hr : RingListsConsistent s) (hrun : s.control.shelf = .running) (n : LineNo)
    (now : Instant) (early late : List BusWrite) :
    RingListsConsistent (s.consistentRead n now early late) := by
  have hlanded : RingListsConsistent ((s.writes early).writes late) := ringLists_landed hr early late
  unfold State.consistentRead
  dsimp only
  split
  · exact ringLists_taken hlanded (by simpa using hrun) n _ now _ _
  · exact hlanded

theorem ringLists_readTakenCount (hr : RingListsConsistent s) (n : LineNo) :
    RingListsConsistent (s.readTakenCount n) := by
  refine ringListsConsistent_iff.2 fun m =>
    (ringListsConsistent_iff.1 hr m).of_sched rfl rfl rfl (.inl ?_)
  rw [State.stateOf, readTakenCount_line]
  split
  · next h => rw [h]; rfl
  · rfl

theorem ringLists_visit (hr : RingListsConsistent s) (now : Instant) (early late : List BusWrite) :
    RingListsConsistent (s.visit now early late) := by
  have hread := ringLists_readTakenCount hr s.visitPointer
  unfold State.visit
  dsimp only
  split
  · next hrun => exact ringLists_consistentRead hread hrun _ now early late
  · exact ringLists_landed hread early late

/-- The commands of one line: nothing, an order taken while the shelf is RUNNING, or a sample arrival. -/
theorem exec_line_ringLists {i : Instr} (hi : lineOf i = some n) (hr : RingListsConsistent s) :
    ∃ t, exec i s = .next t ∧ RingListsConsistent t := by
  cases ho : orderRow i with
  | some row =>
    obtain ⟨m, kind, seq⟩ := row
    obtain ⟨o, now, hexec⟩ := exec_orderRow ho s
    rcases s.order_cases m kind seq (s.answer m o now) with hs | ⟨htakes, ht⟩
    · exact ⟨s, hexec.trans (congrArg _ hs), hr⟩
    · have ⟨hrun, _⟩ := takesOrder_iff.1 htakes
      exact ⟨_, hexec.trans (congrArg _ ht), ringLists_taken hr hrun m o now kind seq⟩
  | none =>
    rcases exec_sampleRow hi ho s with ⟨_, _, -, hexec⟩ | ⟨due, a, hexec⟩
    · exact ⟨s, hexec, hr⟩
    · rcases s.arrivalIf_cases due n a with hs | ha
      · exact ⟨s, hexec.trans (congrArg _ hs), hr⟩
      · exact ⟨_, hexec.trans (congrArg _ ha),
          (touches_arrival s n a).ringLists (fun h => rings_arrival h a) hr⟩

theorem exec_ringLists (i : Instr) (hr : RingListsConsistent s) :
    ∃ t, exec i s = .next t ∧ RingListsConsistent t := by
  have guarded {t u : State} (b : Bool) (ht : RingListsConsistent t) (hu : RingListsConsistent u) :
      RingListsConsistent (if b then t else u) := by
    split
    · exact ht
    · exact hu
  have hboundary (early late : List BusWrite) := ringLists_takeBoundary hr early late
  have hlanded (early late : List BusWrite) := ringLists_landed hr early late
  cases i
  case powerOn seated => exact ⟨_, rfl, powerOn_ringLists seated⟩
  case shelfTimeTick | shelfStatusRead | attentionRegisterRead | registerWriteIgnored | presenceChange =>
    exact ⟨_, rfl, hr⟩
  case workMemoryWrite w => exact ⟨_, rfl, hlanded [w] []⟩
  case run ie early late => exact ⟨_, rfl, ringLists_writeControl hr true ie early late⟩
  case halt ie => exact ⟨_, rfl, ringLists_writeControl hr false ie [] []⟩
  case softReset => exact ⟨_, rfl, ringLists_softReset s⟩
  case interruptEnable v => exact ⟨_, rfl, ringLists_writeControl hr _ v [] []⟩
  case startingEnd early late =>
    exact ⟨_, rfl, guarded _ (ringLists_enterRunning hr early late) (hlanded early late)⟩
  case orderIntakeVisit us early late => exact ⟨_, rfl, ringLists_visit hr _ early late⟩
  case cardLost c => exact ⟨_, rfl, guarded _ (ringLists_loseCard hr c) hr⟩
  case cardBack c => exact ⟨_, rfl, guarded _ (ringLists_returnCard hr c) hr⟩
  case slotBoundary early late => exact ⟨_, rfl, hboundary early late⟩
  case ringEndNoAnswer n early late => exact ⟨_, rfl, guarded _ (hboundary early late) (hlanded early late)⟩
  case ringEndWaitLimit n early late => exact ⟨_, rfl, guarded _ (hboundary early late) (hlanded early late)⟩
  case crossing us => exact ⟨_, rfl, guarded _ (ringLists_takeCrossing hr _) hr⟩
  case sourceQualified us => exact ⟨_, rfl, guarded _ (ringLists_takeCrossing hr _) hr⟩
  case lossDeadlineExpiry us => exact ⟨_, rfl, guarded _ (ringLists_expireLoss hr _) hr⟩
  all_goals exact exec_line_ringLists rfl hr

end

/-- Settles O55: every operation keeps each line's share of the lists, `State.Rings`, and so does every command. -/
theorem stepKeepsRingLists : Obligations.StepKeepsRingLists := fun s _ h hstep =>
  step_keeps h (fun i q => exec_ringLists i (s := { s with pending := q }) h) hstep

end Sys2Proof.Machine
end

section
/-! PROOFS. O23: the checks of a RING, each of which its owner answers without an effect. -/

namespace Sys2Proof.Machine

open Sys2Proof.Safety

section

variable {s : State} {n : LineNo} {p : Fin 4} {party maxFrames : Byte}

/-- R105: a party above 3. -/
theorem orderRing_of_no_party (h : 3 < party.toNat) : s.orderRing n party maxFrames = ⟨.refusedField, s, []⟩ :=
  dif_neg (Nat.not_lt.2 h)

/-- R105: a party from 0 to 3 goes on to the other checks. -/
theorem orderRing_of_party (h : party.toNat = p.val) :
    s.orderRing n party maxFrames = s.ringParty n p maxFrames := by
  unfold State.orderRing
  rw [dif_pos (h ▸ p.isLt)]
  exact congrArg (s.ringParty n · maxFrames) (Fin.ext h)

theorem ringParty_of_no_card (h : s.cardPresent n = false) :
    s.ringParty n p maxFrames = ⟨.refusedNoCard, s, []⟩ := by
  simp [State.ringParty, h, State.refuse]

theorem ringParty_of_state (h : s.cardPresent n = true) (hidle : s.stateOf n ≠ .idle)
    (hringing : s.stateOf n ≠ .ringing) (hwait : s.stateOf n ≠ .ringWait) :
    s.ringParty n p maxFrames = ⟨.refusedState, s, []⟩ := by
  simp [State.ringParty, h, hidle, hringing, hwait, State.refuse]

/-- R95: the check of the party's load. -/
theorem ringParty_of_check {o : OrderOutcome} (h : s.cardPresent n = true)
    (hst : s.stateOf n = .idle ∨ s.stateOf n = .ringing ∨ s.stateOf n = .ringWait)
    (hcheck : s.partyCheck n p = some o) : s.ringParty n p maxFrames = ⟨o, s, []⟩ := by
  unfold State.ringParty
  rw [if_neg (by simp [h]), if_neg (by tauto), hcheck]
  rfl

theorem partyCheck_of_no_load (h : (s.line n).sup.parties[p].load = 0) :
    s.partyCheck n p = some .refusedField := if_pos h

theorem partyCheck_of_capacity (h : (s.line n).sup.parties[p].load ≠ 0)
    (hover : s.control.params.capacity < (s.line n).sup.parties[p].load) :
    s.partyCheck n p = some .refusedCapacity := (if_neg h).trans (if_pos hover)

end

/-- Settles O23: each check that fails is an answer without an effect, `onlyAnswered_of_unchanged`. -/
theorem ringRefusals : Obligations.RingRefusals := by
  intro n seq party maxFrames s ht
  have refused {o : OrderOutcome} (h : s.orderRing n party maxFrames = ⟨o, s, []⟩) :
      OnlyAnswered (.ring n seq party maxFrames) n o 3 seq s := onlyAnswered_of_unchanged rfl ht h
  refine ⟨fun hparty => refused (orderRing_of_no_party hparty), fun p hp => ?_⟩
  have hring : s.orderRing n party maxFrames = s.ringParty n p maxFrames := orderRing_of_party hp
  refine ⟨fun hcard => refused (hring.trans (ringParty_of_no_card hcard)), fun hcard =>
    ⟨fun hidle hringing hwait => ?_, fun hst => ⟨fun hload => ?_, fun hload hover => ?_⟩⟩⟩
  · exact refused (hring.trans (ringParty_of_state hcard hidle hringing hwait))
  · exact refused (hring.trans (ringParty_of_check hcard hst (partyCheck_of_no_load hload)))
  · exact refused (hring.trans (ringParty_of_check hcard hst (partyCheck_of_capacity hload hover)))

end Sys2Proof.Machine
end

section
/-! PROOFS. O15: the marks of a ring code, laid end to end. -/

namespace Sys2Proof.Machine

open Sys2Proof.Safety

/-! ### Marks laid end to end (R89, step 3) -/

/-- The marks of pairs 0 to m - 1, of which pair i has `on i` marks on and then `off i` off. -/
def laidMarks (on off : Nat → Nat) (m : Nat) : List Bool :=
  (List.range m).flatMap fun i => List.replicate (on i) true ++ List.replicate (off i) false

section

variable {on off start : Nat → Nat}

theorem laidMarks_succ (m : Nat) : laidMarks on off (m + 1) =
    laidMarks on off m ++ (List.replicate (on m) true ++ List.replicate (off m) false) := by
  simp [laidMarks, List.range_succ]

theorem laidMarks_length (hzero : start 0 = 0) (hsucc : ∀ i, start (i + 1) = start i + on i + off i) (m : Nat) :
    (laidMarks on off m).length = start m := by
  induction m with
  | zero => simp [laidMarks, hzero]
  | succ m ih =>
    rw [laidMarks_succ, hsucc]
    simp [ih, Nat.add_assoc]

theorem start_mono (hsucc : ∀ i, start (i + 1) = start i + on i + off i) : Monotone start :=
  monotone_nat_of_le_succ fun i => by
    rw [hsucc]
    omega

/-- One pair's marks at k: on where its on marks cover k. -/
theorem pairMarks_getD (a b k : Nat) :
    (List.replicate a true ++ List.replicate b false).getD k false = true ↔ k < a := by
  by_cases h : k < a
  · simp [List.getD_eq_getElem?_getD, List.getElem?_append, h]
  · simp only [List.getD_eq_getElem?_getD, List.getElem?_append, List.length_replicate, h, if_false, iff_false,
      List.getElem?_replicate]
    split <;> simp

theorem laidMarks_getD (hzero : start 0 = 0) (hsucc : ∀ i, start (i + 1) = start i + on i + off i) (m k : Nat) :
    (laidMarks on off m).getD k false = true ↔ ∃ i, i < m ∧ start i ≤ k ∧ k < start i + on i := by
  induction m with
  | zero => simp [laidMarks]
  | succ m ih =>
    have hlen := laidMarks_length (on := on) (off := off) hzero hsucc m
    rw [laidMarks_succ]
    by_cases hk : k < start m
    · rw [List.getD_append _ _ _ _ (hlen.symm ▸ hk), ih]
      refine exists_congr fun i => and_congr_left fun ⟨hle, _⟩ => ⟨fun hi => by omega, fun hi => ?_⟩
      have hne : i ≠ m := fun h => absurd (h ▸ hle) (by omega)
      omega
    · rw [List.getD_append_right _ _ _ _ (hlen.symm ▸ Nat.not_lt.1 hk), pairMarks_getD, hlen]
      constructor
      · exact fun h => ⟨m, by omega, by omega, by omega⟩
      · rintro ⟨i, hi, hle, hlt⟩
        rcases Nat.lt_succ_iff_lt_or_eq.1 hi with hlt' | rfl
        · have hmono := start_mono hsucc (Nat.succ_le_of_lt hlt')
          rw [hsucc] at hmono
          omega
        · omega

end

/-! ### The code as read, and as clamped (R89, steps 1 and 2) -/

section

variable (s : State) (c : Fin 16)

theorem pairCount_le : pairCount s c ≤ 4 := by
  unfold pairCount
  omega

/-- The four pairs of a code as read. -/
theorem rawCode_pairs : (s.rawCode c).pairs =
    (List.range 4).map fun i => (codeByte s c (1 + 2 * i), codeByte s c (2 + 2 * i)) := rfl

/-- The pairs of a code in use, as read. -/
theorem rawCode_used : (s.rawCode c).pairs.take (pairCount s c) =
    (List.range (pairCount s c)).map fun i => (codeByte s c (1 + 2 * i), codeByte s c (2 + 2 * i)) := by
  rw [rawCode_pairs, ← List.map_take, List.take_range, min_eq_left (pairCount_le s c)]

/-- The pairs of a code as clamped: those in use, and the others as read. -/
theorem clamped_pairs : (s.rawCode c).clamped.pairs =
    ((List.range (pairCount s c)).map fun i => (onLength s c i, offLength s c i)) ++
      (s.rawCode c).pairs.drop (pairCount s c) := by
  have hused := congrArg (List.map fun q : Nat × Nat => (clamp 1 6 q.1, min 11 q.2)) (rawCode_used s c)
  rw [List.map_map] at hused
  exact congrArg (· ++ (s.rawCode c).pairs.drop (pairCount s c)) hused

theorem clamped_marks : (s.rawCode c).clamped.marks =
    laidMarks (onLength s c) (offLength s c) (pairCount s c) := by
  have hcount : (s.rawCode c).clamped.count = pairCount s c := rfl
  rw [RawCode.marks, hcount, clamped_pairs, List.take_left' (by simp), List.flatMap_map]
  rfl

/-- R89: steps 1 and 2 leave a code whose pair count and whose lengths in use are in range. -/
theorem clamped_eq_self_iff : (s.rawCode c).clamped = s.rawCode c ↔
    codeByte s c 0 = pairCount s c ∧ ∀ i, i < pairCount s c →
      codeByte s c (1 + 2 * i) = onLength s c i ∧ codeByte s c (2 + 2 * i) = offLength s c i := by
  have hfields : (s.rawCode c).clamped = s.rawCode c ↔ pairCount s c = codeByte s c 0 ∧
      (s.rawCode c).clamped.pairs = (s.rawCode c).pairs := iff_of_eq (RawCode.mk.injEq _ _ _ _)
  have hsplit : (s.rawCode c).pairs = _ := (List.take_append_drop (pairCount s c) _).symm
  rw [rawCode_used] at hsplit
  rw [hfields, clamped_pairs, eq_comm, eq_comm (b := (s.rawCode c).pairs)]
  conv_lhs => rw [hsplit]
  simp [List.map_inj_left]

end

/-- Settles O15: the mask is the marks of the pairs in use laid end to end, `laidMarks_getD`. -/
theorem ringCodesCompileToMasks : Obligations.RingCodesCompileToMasks := by
  intro s c
  have hmask (k : Fin 12) : s.loadedParams.masks[c][k] = (s.rawCode c).clamped.marks.getD k.val false := by
    simp [State.loadedParams, RawCode.compile]
  refine ⟨fun k => ?_, s.loadedParams_inRange.2.2 c, ?_⟩
  · rw [hmask, clamped_marks]
    exact laidMarks_getD rfl (fun _ => rfl) _ _
  · have hlen := laidMarks_length (start := pairStart s c) rfl (fun _ => rfl) (pairCount s c)
    rw [RawCode.isAdjusted, clamped_marks, hlen, Bool.or_eq_true, decide_eq_true_iff, decide_eq_true_iff,
      Ne, clamped_eq_self_iff, not_and_or]
    simp only [or_assoc, Ne, not_forall, exists_prop, not_and_or]

end Sys2Proof.Machine
end

section
/-! PROOFS. The stages of a slot boundary at which no frame ends, for O48 and O51: the relay requests are
`requested`, and the walk is `Walked`. -/

namespace Sys2Proof.Machine

open Sys2Proof.Safety

section

variable {s t : State} {n : LineNo} {c : FrameSlot}

/-! ### States that agree but for the lists and the lines -/

theorem lines_ext (h : ∀ n, t.line n = s.line n) : t.lines = s.lines :=
  Vector.ext fun i hi => h ⟨i, hi⟩

/-- What belongs to no one line stands, and no word was sent: the lists and the lines alone differ. -/
theorem eq_of_shelfKept (h : ShelfKept s t) (hsent : t.sent = s.sent) :
    t = { s with sched := t.sched, lines := t.lines } := by
  obtain ⟨hport, hcontrol, hvisit, hslots, -, -, hsource, hlatch, htime, hpending⟩ := h
  rw [← hport, ← hcontrol, ← hvisit, ← hslots, ← hsource, ← hlatch, ← htime, ← hpending, ← hsent]

/-- R130: an operation that leaves its line's setting sends no word. -/
theorem Works.sent_of_quiet (h : Works n s t) (hq : Quiet n s t) : t.sent = s.sent := by
  have hs : t.sent = relayWords (s.cardPresent n) n (s.line n) (t.line n) ++ s.sent := h.sends
  rwa [relayWords_of_setting_eq _ n (Eq.symm hq), List.nil_append] at hs

/-! ### The boundary, and its stages 1 to 3 (R91, R110, R112) -/

theorem boundaryDue_of_boundary {e : Nat} (h : Boundary s c e) : s.boundaryDue = some e := by
  obtain ⟨hrun, he, hle, -⟩ := h
  simp [State.boundaryDue, hrun, he, hle]

theorem frameEnds_of_noFrameEnds (h : NoFrameEnds s c) : s.frameEnds c = s := by
  have hnone : s.sched.bookings.filter (fun b => b.endsAt c) = [] :=
    List.filter_eq_nil_iff.2 fun b hb => by simpa [Booking.endsAt] using h b hb
  simp [State.frameEnds, State.frameEndLines, hnone]

theorem Booking.request_eq_followed (b : Booking) (c : FrameSlot) (l : Line) :
    b.request c l = { l with rel := { l.rel with pending := followed b c l } } := by
  have hcond : ((b.firstBurst || decide (b.rotation = c)) && ringsIn b.mask b.rotation c) = true ↔
      (b.firstBurst = true ∨ b.rotation = c) ∧ b.mask[c - b.rotation] = true := by
    simp [ringsIn]
  unfold Booking.request followed
  dsimp only
  by_cases h : (b.firstBurst = true ∨ b.rotation = c) ∧ b.mask[c - b.rotation] = true
  · rw [if_pos (hcond.2 h), if_pos h]
    rfl
  · rw [if_neg fun h' => h (hcond.1 h'), if_neg h]
    rfl

theorem requested_line_of_none (h : s.bookingOf n = none) (c : FrameSlot) :
    (requested s c).line n = s.line n := by
  simp [State.line, requested, h]

theorem requested_line_of_booking {b : Booking} (h : s.bookingOf n = some b) (c : FrameSlot) :
    (requested s c).line n =
      { s.line n with rel := { (s.line n).rel with pending := followed b c (s.line n) } } := by
  simp [State.line, requested, h]

/-- R112: the function of line n's request, with its booking. -/
def State.requestLine (s : State) (c : FrameSlot) (n : LineNo) (l : Line) : Line :=
  match s.bookingOf n with
  | some b => b.request c l
  | none => l

theorem relayRequests_mapLines (s : State) (c : FrameSlot) : s.relayRequests c =
    { s.mapLines (s.requestLine c) with
      sched.bookings := s.sched.bookings.map fun b =>
        (if b.startsAt c then { b with firstBurst := true } else b) } := rfl

theorem requestLine_eq (s : State) (c : FrameSlot) (n : LineNo) :
    s.requestLine c n (s.line n) = (requested s c).line n := by
  unfold State.requestLine
  split
  · next b h => exact (b.request_eq_followed c (s.line n)).trans (requested_line_of_booking h c).symm
  · next h => exact (requested_line_of_none h c).symm

theorem requested_setting (s : State) (c : FrameSlot) (n : LineNo) :
    ((requested s c).line n).setting = (s.line n).setting := by
  cases h : s.bookingOf n with
  | none => rw [requested_line_of_none h]
  | some b =>
    rw [requested_line_of_booking h]
    rfl

theorem burstMarked_eq (s : State) (c : FrameSlot) : burstMarked s c =
    s.sched.bookings.map fun b => if b.startsAt c then { b with firstBurst := true } else b :=
  List.map_congr_left fun ⟨_, _, r, _, _, _, _, first, _⟩ _ => by
    by_cases hr : r = c <;> cases first <;> simp [Booking.startsAt, hr]

/-- R112: stage 3 is `requested`. -/
theorem relayRequests_eq (s : State) (c : FrameSlot) : s.relayRequests c = requested s c := by
  have hlines : (s.mapLines (s.requestLine c)).lines = (requested s c).lines := lines_ext fun n => by
    rw [State.mapLines_line, requestLine_eq]
  have hsent : (s.mapLines (s.requestLine c)).sent = s.sent := mapLines_sent_of_settings fun n => by
    rw [requestLine_eq, requested_setting]
  rw [relayRequests_mapLines, mapLines_eq, hlines, hsent, ← burstMarked_eq]
  rfl

/-! ### The boundary, whole (R109) -/

/-- Stage 5, where the source is RUNNING (R109). -/
def State.walkTo (s : State) (c : FrameSlot) : State :=
  if s.source.state = .running then State.walk c s.sched.waits s else s

theorem boundaryTail_eq (s : State) (c : FrameSlot) (begun : List LineNo) (early late : List BusWrite) :
    s.boundaryTail c begun early late =
      (if c = 0 then (s.countWaits begun).reloadCheck early late else s.landed early late).walkTo c := rfl

/-- The boundary that is due, where no frame ends at it. -/
theorem exec_slotBoundary_of_noFrameEnds {e : Nat} (h : Boundary s c e) (hno : NoFrameEnds s c)
    (early late : List BusWrite) : exec (.slotBoundary early late) s = .next
      ((requested (clocked s c e) c).boundaryTail c (s.sched.waits.map WaitEntry.line) early late) := by
  have hdue := boundaryDue_of_boundary h
  obtain ⟨-, -, -, rfl⟩ := h
  have hframes : (clocked s (s.sched.slot + 1) e).frameEnds (s.sched.slot + 1) = clocked s (s.sched.slot + 1) e :=
    frameEnds_of_noFrameEnds hno
  have htake : s.takeBoundary early late = s.boundary false e early late := by
    simp only [State.takeBoundary, hdue]
  have hstages : s.boundary false e early late =
      (((clocked s (s.sched.slot + 1) e).frameEnds (s.sched.slot + 1)).relayRequests
        (s.sched.slot + 1)).boundaryTail (s.sched.slot + 1) (s.sched.waits.map WaitEntry.line) early late := rfl
  rw [hframes, relayRequests_eq] at hstages
  exact congrArg Host.Outcome.next (htake.trans hstages)

/-- The boundary that is due, where no frame ends at it and it is no frame boundary. -/
theorem exec_slotBoundary_of_ne_zero {e : Nat} (h : Boundary s c e) (hno : NoFrameEnds s c) (hc : c ≠ 0)
    (early late : List BusWrite) : exec (.slotBoundary early late) s = .next
      (((requested (clocked s c e) c).landed early late).walkTo c) := by
  rw [exec_slotBoundary_of_noFrameEnds h hno, boundaryTail_eq, if_neg hc]

/-! ### An entry that the walk books (R114) -/

theorem fitsAt_iff {p : Fin 4} {r : FrameSlot} : FitsAt s n p r ↔
    fits s.sched.loads s.control.params.capacity (s.maskOf n p) (s.loadOf n p) r = true := fits_iff.symm

theorem firstFit_of_search {p : Fin 4} {r : FrameSlot} (h : s.search n p c = some r) :
    ∃ d, r = c + d ∧ FirstFit s n p c d := by
  obtain ⟨d, rfl, hfit, hbefore⟩ := searchFrom_some h
  exact ⟨d, rfl, fitsAt_iff.2 hfit, fun j hj hf => absurd ((hbefore j hj).symm.trans (fitsAt_iff.1 hf)) (by decide)⟩

theorem not_fitsAt_of_search {p : Fin 4} (h : s.search n p c = none) (r : FrameSlot) : ¬FitsAt s n p r := by
  have hr := searchFrom_none h (r - c)
  rw [add_sub_cancel] at hr
  rw [fitsAt_iff]
  exact fun hf => absurd (hr.symm.trans hf) (by decide)

/-- The line of an entry that is booked, with its report, before its operate is asked for. -/
theorem bookReported_line (s : State) (c : FrameSlot) (e : WaitEntry) (r : FrameSlot) :
    (((s.dropWaits (· = e.line)).book e.line e.party r e.maxFrames).report e.line
      (.ringBooked (r - c).val r)).line e.line =
      reported s (movedLine (s.line e.line) .ringing) (.ringBooked (r - c).val r) := by
  rw [State.report_line_same, State.book, State.updLine_line_same]
  rfl

theorem walkBook_line (s : State) (c : FrameSlot) (e : WaitEntry) (r : FrameSlot) :
    (s.walkBook c e r).line e.line = walkedLine s c e r := by
  unfold State.walkBook walkedLine
  dsimp only
  split
  · rw [State.updLine_line_same, State.updBooking_line, bookReported_line]
    rfl
  · rw [bookReported_line]
    rfl

/-- The change of the ring lists that a walk makes for one entry. -/
theorem walkBook_sched {e : WaitEntry} (hb : e.line ∉ s.sched.bookings.map Booking.line) (r : FrameSlot) :
    (s.walkBook c e r).sched = { s.sched with
      loads := addLoad s.sched.loads (walkedBooking s c e r)
      bookings := s.sched.bookings ++ [walkedBooking s c e r]
      waits := s.sched.waits.filter fun x => decide (x.line ≠ e.line) } := by
  have hwaits : (s.sched.waits.filter fun x => !decide (x.line = e.line)) =
      s.sched.waits.filter fun x => decide (x.line ≠ e.line) := by simp
  unfold State.walkBook
  dsimp only
  split
  · next hr =>
    have hmark : (s.sched.bookings ++ [s.newBooking e.line e.party r e.maxFrames]).map (fun b =>
        if b.line = e.line then { b with firstBurst := true } else b) =
        s.sched.bookings ++ [walkedBooking s c e r] := by
      rw [List.map_append, List.map_congr_left (g := id) fun b hm => if_neg
        fun h : b.line = e.line => hb (h ▸ List.mem_map_of_mem hm), List.map_id, walkedBooking, decide_eq_true hr]
      exact congrArg (s.sched.bookings ++ [·]) (if_pos rfl)
    rw [← hmark, ← hwaits]
    rfl
  · next hr =>
    rw [walkedBooking, decide_eq_false hr, ← hwaits]
    rfl

/-! ### The plan of a walk (R114) -/

theorem maskOf_congr (hline : t.line n = s.line n) (hcontrol : t.control = s.control) (p : Fin 4) :
    t.maskOf n p = s.maskOf n p := by
  simp only [State.maskOf, hline, hcontrol]

theorem fitsAt_congr {p : Fin 4} {r : FrameSlot} (hline : t.line n = s.line n) (hcontrol : t.control = s.control)
    (hloads : t.sched.loads = s.sched.loads) : FitsAt t n p r ↔ FitsAt s n p r := by
  rw [FitsAt, FitsAt, maskOf_congr hline hcontrol, hline, hcontrol, hloads]

theorem firstFit_congr {p : Fin 4} {d : Fin 12} (hline : t.line n = s.line n) (hcontrol : t.control = s.control)
    (hloads : t.sched.loads = s.sched.loads) : FirstFit t n p c d ↔ FirstFit s n p c d := by
  simp only [FirstFit, fitsAt_congr hline hcontrol hloads]

theorem walkedBooking_congr {e : WaitEntry} (hline : t.line e.line = s.line e.line) (hcontrol : t.control = s.control)
    (c r : FrameSlot) : walkedBooking t c e r = walkedBooking s c e r := by
  rw [walkedBooking, walkedBooking, admitted, admitted, maskOf_congr hline hcontrol, hline]

theorem walkedLine_congr {e : WaitEntry} (hline : t.line e.line = s.line e.line) (hcontrol : t.control = s.control)
    (htime : t.shelfTime = s.shelfTime) (c r : FrameSlot) : walkedLine t c e r = walkedLine s c e r := by
  simp only [walkedLine, reported, hline, hcontrol, htime]

section

variable {plan plan' : LineNo → Option FrameSlot} {e : WaitEntry} {es : List WaitEntry} {r : FrameSlot}

theorem planned_cons_none (h : plan e.line = none) : planned s c plan (e :: es) = planned s c plan es := by
  simp [planned, h]

theorem planned_cons_some (h : plan e.line = some r) :
    planned s c plan (e :: es) = walkedBooking s c e r :: planned s c plan es := by
  simp [planned, h]

theorem planned_of_none (h : ∀ e ∈ es, plan e.line = none) : planned s c plan es = [] :=
  List.filterMap_eq_nil_iff.2 fun e he => by simp [h e he]

theorem planned_congr (hplan : ∀ e ∈ es, plan' e.line = plan e.line)
    (hline : ∀ e ∈ es, t.line e.line = s.line e.line) (hcontrol : t.control = s.control) : planned t c plan' es = planned s c plan es :=
  List.filterMap_congr fun e he => by
    rw [hplan e he]
    exact Option.map_congr fun r _ => walkedBooking_congr (hline e he) hcontrol c r

/-- R94: the slot loads with those of the planned bookings, from them alone. -/
theorem laden_loads_congr {es' : List WaitEntry} (hloads : ∀ k : FrameSlot,
      t.sched.loads[k] + ((planned t c plan' es').map fun b => b.contribution k).sum =
      s.sched.loads[k] + ((planned s c plan es).map fun b => b.contribution k).sum) :
    (laden t c plan' es').sched.loads = (laden s c plan es).sched.loads := by
  unfold laden
  exact congrArg Vector.ofFn (funext hloads)

end

end
end Sys2Proof.Machine
end

section
/-! PROOFS. O51: the walk has a plan. -/

namespace Sys2Proof.Machine

open Sys2Proof.Safety

/-- R98: the search for the entry's party from slot c on, against the load of `x`, has this outcome. -/
def Tried (x : State) (c : FrameSlot) (e : WaitEntry) (o : Option FrameSlot) : Prop :=
  (∀ r, o = some r → ∃ d, r = c + d ∧ FirstFit x e.line e.party c d) ∧
    (o = none → ∀ r, ¬FitsAt x e.line e.party r)

/-- R114: `plan` says which entries of `es` the walk from `s` to `t` books, and at which rotations; the clauses are
those of `Walked`, for any part of the wait list. -/
structure PlanOf (c : FrameSlot) (es : List WaitEntry) (s t : State) (plan : LineNo → Option FrameSlot) :
    Prop where
  tried : ∀ (ahead : List WaitEntry) (e : WaitEntry) (behind : List WaitEntry), es = ahead ++ e :: behind →
    if ∀ x ∈ ahead, plan x.line = none → x.blocking = false then
      Tried (laden s c plan ahead) c e (plan e.line)
    else plan e.line = none
  sched : t.sched = { s.sched with
    loads := (laden s c plan es).sched.loads
    bookings := s.sched.bookings ++ planned s c plan es
    waits := s.sched.waits.filter fun e => (plan e.line).isNone }
  booked : ∀ e ∈ es, ∀ r, plan e.line = some r → t.line e.line = walkedLine s c e r
  kept : ∀ n, plan n = none → t.line n = s.line n
  unplanned : ∀ n, n ∉ es.map WaitEntry.line → plan n = none

section

variable {s t : State} {c : FrameSlot} {e : WaitEntry} {es : List WaitEntry}
  {plan : LineNo → Option FrameSlot}

theorem laden_nil_loads (s : State) (c : FrameSlot) (plan : LineNo → Option FrameSlot) :
    (laden s c plan []).sched.loads = s.sched.loads :=
  Vector.ext fun i hi => by simp [laden, planned]

theorem tried_search (s : State) (c : FrameSlot) (e : WaitEntry) :
    Tried s c e (s.search e.line e.party c) :=
  ⟨fun _ => firstFit_of_search, not_fitsAt_of_search⟩

theorem tried_congr {o : Option FrameSlot} (hline : t.line e.line = s.line e.line) (hcontrol : t.control = s.control)
    (hloads : t.sched.loads = s.sched.loads) : Tried t c e o ↔ Tried s c e o := by
  simp only [Tried, fitsAt_congr hline hcontrol hloads, firstFit_congr hline hcontrol hloads]

/-- The first entry of a list is tried against the load as it stands. -/
theorem tried_head (hsearch : s.search e.line e.party c = plan e.line) :
    Tried (laden s c plan []) c e (plan e.line) := by
  have hfirst := tried_search s c e
  rw [hsearch] at hfirst
  exact (tried_congr (s := s) (t := laden s c plan []) rfl rfl (laden_nil_loads s c plan)).2 hfirst

/-- A walk that books nothing changes nothing. -/
theorem sched_of_none (h : ∀ n, plan n = none) (es : List WaitEntry) :
    s.sched = { s.sched with
      loads := (laden s c plan es).sched.loads
      bookings := s.sched.bookings ++ planned s c plan es
      waits := s.sched.waits.filter fun e => (plan e.line).isNone } := by
  have hplanned : planned s c plan es = [] := planned_of_none fun e _ => h e.line
  have hloads : (laden s c plan es).sched.loads = s.sched.loads :=
    Vector.ext fun i hi => by simp [laden, hplanned]
  have hwaits : s.sched.waits.filter (fun e => (plan e.line).isNone) = s.sched.waits := by simp [h]
  rw [hloads, hplanned, hwaits, List.append_nil]

theorem planOf_nil (c : FrameSlot) (s : State) : PlanOf c [] s s fun _ => none where
  tried ahead e behind h := by simp at h
  sched := sched_of_none (fun _ => rfl) []
  booked e he := by simp at he
  kept _ _ := rfl
  unplanned _ _ := rfl

/-- R114: a blocking entry that fits nowhere holds itself and the others. -/
theorem planOf_blocked (hsearch : s.search e.line e.party c = none) (hblocking : e.blocking = true)
    (es : List WaitEntry) : PlanOf c (e :: es) s s fun _ => none where
  tried ahead x behind h := by
    rcases List.cons_eq_append_iff.1 h with ⟨rfl, hx⟩ | ⟨ahead, rfl, -⟩
    · obtain ⟨rfl, -⟩ := List.cons.inj hx
      rw [if_pos (by simp)]
      exact tried_head hsearch
    · rw [if_neg (by simp [hblocking])]
  sched := sched_of_none (fun _ => rfl) _
  booked _ _ r hr := by simp at hr
  kept _ _ := rfl
  unplanned _ _ := rfl

/-- R114: an entry that fits nowhere and is not blocking is passed over. -/
theorem PlanOf.passed (h : PlanOf c es s t plan) (he : e.line ∉ es.map WaitEntry.line)
    (hsearch : s.search e.line e.party c = none) (hblocking : e.blocking = false) :
    PlanOf c (e :: es) s t plan := by
  have hnone : plan e.line = none := h.unplanned _ he
  have hloads (as : List WaitEntry) :
      (laden s c plan (e :: as)).sched.loads = (laden s c plan as).sched.loads := by
    simp only [laden, planned_cons_none hnone]
  refine ⟨fun ahead x behind hsplit => ?_, ?_, fun x hx r hr => ?_, h.kept, fun n hn => ?_⟩
  · rcases List.cons_eq_append_iff.1 hsplit with ⟨rfl, hx⟩ | ⟨ahead, rfl, rfl⟩
    · obtain ⟨rfl, -⟩ := List.cons.inj hx
      rw [if_pos (by simp)]
      exact tried_head (hsearch.trans hnone.symm)
    · have hcong := tried_congr (c := c) (e := x) (o := plan x.line) (s := laden s c plan ahead)
        (t := laden s c plan (e :: ahead)) rfl rfl (hloads ahead)
      rw [hcong]
      simpa [hblocking] using h.tried ahead x behind rfl
  · rw [h.sched, hloads, planned_cons_none hnone]
  · rcases List.mem_cons.1 hx with rfl | hx
    · simp [hnone] at hr
    · exact h.booked x hx r hr
  · exact h.unplanned n fun hm => hn (by simp [hm])

/-- R114: an entry that is booked, and then the plan of those behind it, from the state so reached. -/
theorem PlanOf.served {r : FrameSlot} {plan' : LineNo → Option FrameSlot}
    (h : PlanOf c es (s.walkBook c e r) t plan) (he : e.line ∉ es.map WaitEntry.line)
    (hb : e.line ∉ s.sched.bookings.map Booking.line) (hsearch : s.search e.line e.party c = some r)
    (hself : plan' e.line = some r) (hother : ∀ n, n ≠ e.line → plan' n = plan n) :
    PlanOf c (e :: es) s t plan' := by
  have htouch := (works_walkBook s c e r).touches
  have hcontrol := htouch.shelf.control
  have hsched := walkBook_sched (c := c) hb r
  have hne : ∀ x ∈ es, x.line ≠ e.line := fun x hx hxe => he (hxe ▸ List.mem_map_of_mem hx)
  have hplan : ∀ x ∈ es, plan x.line = plan' x.line := fun x hx => (hother _ (hne x hx)).symm
  have hline : ∀ x ∈ es, (s.walkBook c e r).line x.line = s.line x.line := fun x hx =>
    htouch.others.1 _ (hne x hx)
  have hplanned (as : List WaitEntry) (has : ∀ x ∈ as, x ∈ es) : planned s c plan' (e :: as) =
      walkedBooking s c e r :: planned (s.walkBook c e r) c plan as := by
    rw [planned_cons_some hself,
      planned_congr (fun x hx => hplan x (has x hx)) (fun x hx => hline x (has x hx)) hcontrol]
  have hloads (as : List WaitEntry) (has : ∀ x ∈ as, x ∈ es) :
      (laden s c plan' (e :: as)).sched.loads = (laden (s.walkBook c e r) c plan as).sched.loads := by
    refine laden_loads_congr fun k => ?_
    have hk := addLoad_get s.sched.loads (walkedBooking s c e r) k
    rw [hplanned as has, hsched, hk, List.map_cons, List.sum_cons, Nat.add_assoc]
  refine ⟨fun ahead x behind hsplit => ?_, ?_, fun x hx o ho => ?_, fun n hn => ?_, fun n hn => ?_⟩
  · rcases List.cons_eq_append_iff.1 hsplit with ⟨rfl, hx⟩ | ⟨ahead, rfl, rfl⟩
    · obtain ⟨rfl, -⟩ := List.cons.inj hx
      rw [if_pos (by simp)]
      exact tried_head (hsearch.trans hself.symm)
    · have hahead : ∀ y ∈ ahead, y ∈ ahead ++ x :: behind := fun y hy => List.mem_append_left _ hy
      have hx : x ∈ ahead ++ x :: behind := by simp
      have hcong := tried_congr (c := c) (e := x) (o := plan' x.line) (s := laden (s.walkBook c e r) c plan ahead)
        (t := laden s c plan' (e :: ahead)) (hline x hx).symm hcontrol.symm (hloads ahead hahead)
      have hcond : (∀ y ∈ e :: ahead, plan' y.line = none → y.blocking = false) ↔
          ∀ y ∈ ahead, plan y.line = none → y.blocking = false := by
        rw [List.forall_mem_cons, hself, and_iff_right (by simp)]
        exact forall₂_congr fun y hy => by rw [hplan y (hahead y hy)]
      have htried := h.tried ahead x behind rfl
      rw [hplan x hx] at htried
      simp only [hcond, hcong]
      exact htried
  · have hwaits : ((s.sched.waits.filter fun x => decide (x.line ≠ e.line)).filter fun x =>
        (plan x.line).isNone) = s.sched.waits.filter fun x => (plan' x.line).isNone := by
      rw [List.filter_filter]
      refine List.filter_congr fun x _ => ?_
      by_cases hx : x.line = e.line
      · simp [hx, hself]
      · simp [hx, hother]
    rw [h.sched, hloads es fun _ => id, hplanned es fun _ => id, hsched, hwaits, List.append_assoc,
      List.singleton_append]
  · rcases List.mem_cons.1 hx with rfl | hx
    · obtain rfl : r = o := Option.some.inj (hself.symm.trans ho)
      rw [h.kept _ (h.unplanned _ he), walkBook_line]
    · rw [h.booked x hx o ((hplan x hx).trans ho)]
      exact walkedLine_congr (hline x hx) hcontrol htouch.shelf.shelfTime c o
  · have hnotself : n ≠ e.line := fun hne => by simp [hne, hself] at hn
    rw [h.kept n ((hother n hnotself).symm.trans hn), htouch.others.1 n hnotself]
  · rw [List.map_cons, List.mem_cons, not_or] at hn
    rw [hother n hn.1]
    exact h.unplanned n hn.2

/-- R114: the walk over entries of different lines, none of which has a booking, has a plan. -/
theorem exists_planOf_walk (c : FrameSlot) (hnodup : (es.map WaitEntry.line).Nodup)
    (hb : ∀ e ∈ es, e.line ∉ s.sched.bookings.map Booking.line) :
    ∃ plan, PlanOf c es s (State.walk c es s) plan := by
  induction es generalizing s with
  | nil => exact ⟨_, planOf_nil c s⟩
  | cons e es ih =>
    obtain ⟨he, hnodup⟩ := List.nodup_cons.1 hnodup
    unfold State.walk
    split
    · next r hsearch =>
      have hbooked : ∀ x ∈ es, x.line ∉ (s.walkBook c e r).sched.bookings.map Booking.line := fun x hx => by
        have hne : x.line ≠ e.line := fun hxe => he (hxe ▸ List.mem_map_of_mem hx)
        rw [walkBook_sched (hb e (by simp)), List.map_append, List.mem_append, not_or]
        exact ⟨hb x (by simp [hx]), by simpa [walkedBooking, admitted] using hne⟩
      obtain ⟨plan, hplan⟩ := ih hnodup hbooked
      exact ⟨Function.update plan e.line (some r), hplan.served he (hb e (by simp)) hsearch
        (Function.update_self _ _ _) fun n hn => Function.update_of_ne hn _ _⟩
    · next hsearch =>
      split
      · next hblocking => exact ⟨_, planOf_blocked hsearch hblocking es⟩
      · next hblocking =>
        obtain ⟨plan, hplan⟩ := ih hnodup fun x hx => hb x (by simp [hx])
        exact ⟨plan, hplan.passed he hsearch (by simpa using hblocking)⟩

end
end Sys2Proof.Machine
end

section
/-! PROOFS. What every stage of a slot boundary leaves: it works on the listed lines alone, and sends no word where
they have no tone. -/

namespace Sys2Proof.Machine

open Sys2Proof.Safety

/-- No line in a ring list has a tone (R69). -/
def Toneless (s : State) : Prop := ∀ n, s.sched.Lists n → (s.line n).rel.tone = .none

/-- From `s` to `t` nothing changes but the ring lists and lines in them, no line joins the lists, and if no listed
line has a tone, none has one after and no word is sent. -/
structure Confined (s t : State) : Prop where
  shelf : ShelfKept s t
  lists : ∀ n, t.sched.Lists n → s.sched.Lists n
  lines : ∀ n, ¬s.sched.Lists n → t.line n = s.line n
  silent : Toneless s → t.sent = s.sent ∧ ∀ n, s.sched.Lists n → (t.line n).rel.tone = .none

section

variable {s₀ s t u : State} {n : LineNo}

theorem Confined.refl (s : State) : Confined s s :=
  ⟨.refl s, fun _ => id, fun _ _ => rfl, fun h => ⟨rfl, h⟩⟩

theorem Confined.toneless (h : Confined s t) (hs : Toneless s) : Toneless t :=
  fun n hn => (h.silent hs).2 n (h.lists n hn)

theorem Confined.trans (h : Confined s t) (h' : Confined t u) : Confined s u where
  shelf := h.shelf.trans h'.shelf
  lists n := h.lists n ∘ h'.lists n
  lines n hn := (h'.lines n fun ht => hn (h.lists n ht)).trans (h.lines n hn)
  silent hs := by
    obtain ⟨hsent, htone⟩ := h.silent hs
    obtain ⟨hsent', htone'⟩ := h'.silent (h.toneless hs)
    refine ⟨hsent'.trans hsent, fun n hn => ?_⟩
    by_cases ht : t.sched.Lists n
    · exact htone' n ht
    · rw [h'.lines n ht]
      exact htone n hn

/-- One operation of a listed line. -/
theorem Confined.works (h₀ : Confined s₀ s) (h : Works n s t) (hn : s₀.sched.Lists n)
    (hq : (s.line n).rel.tone = .none → Quiet n s t) : Confined s₀ t where
  shelf := h₀.shelf.trans h.touches.shelf
  lists m hm := by
    by_cases hmn : m = n
    · exact hmn ▸ hn
    · exact h₀.lists m (lists_of_otherLinesKept h.touches.others hmn hm)
  lines m hm := (h.touches.others.1 m fun hmn => hm (hmn ▸ hn)).trans (h₀.lines m hm)
  silent hs := by
    obtain ⟨hsent, htone⟩ := h₀.silent hs
    have hquiet := hq (htone n hn)
    refine ⟨(h.sent_of_quiet hquiet).trans hsent, fun m hm => ?_⟩
    by_cases hmn : m = n
    · subst hmn
      exact (congrArg RelaySetting.tone hquiet).trans (htone m hm)
    · rw [h.touches.others.1 m hmn]
      exact htone m hm

/-- Operations of several listed lines, one after the other. -/
theorem Confined.foldl_works {f : State → LineNo → State} (hf : ∀ s n, Works n s (f s n))
    (hq : ∀ s n, (s.line n).rel.tone = .none → Quiet n s (f s n)) {ns : List LineNo} (h₀ : Confined s₀ s)
    (hn : ∀ n ∈ ns, s₀.sched.Lists n) : Confined s₀ (ns.foldl f s) := by
  induction ns generalizing s with
  | nil => exact h₀
  | cons n ns ih =>
    exact ih (h₀.works (hf s n) (hn n (by simp)) (hq s n)) fun m hm => hn m (by simp [hm])

theorem confined_lists {sched : Scheduler} (hslot : sched.slot = s.sched.slot)
    (hnext : sched.nextBoundary = s.sched.nextBoundary) (hl : ∀ n, sched.Lists n → s.sched.Lists n) :
    Confined s { s with sched := sched } :=
  ⟨⟨rfl, rfl, rfl, rfl, hslot, hnext, rfl, rfl, rfl, rfl⟩, hl, fun _ _ => rfl, fun h => ⟨rfl, h⟩⟩

/-! ### The operations of the stages, where the line has no tone -/

theorem quiet_enterFresh {st : LineState} (h : (s.line n).rel.tone = .none) :
    Quiet n s (s.updLine n fun l => l.enterFresh st .none) :=
  quiet_updLine (Line.enterFresh_setting st h)

theorem quiet_guardWithRelease (target : ExitTarget) (h : (s.line n).rel.tone = .none) :
    Quiet n s (s.guardWithRelease n target) :=
  quiet_updLine (by simp [Line.setting, h])

theorem quiet_endWait (h : (s.line n).rel.tone = .none) : Quiet n s (s.endWait n) :=
  .report (s := s) (quiet_enterFresh (s := s.dropWaits (· = n)) h) _

theorem quiet_evictLine {b : Booking} (mark : EvictionMark) (h : (s.line b.line).rel.tone = .none) :
    Quiet b.line s (s.evictLine b mark) := by
  unfold State.evictLine
  dsimp only
  split
  · exact quiet_guardWithRelease _ h
  · exact quiet_enterFresh (s := s.joinEvicted _ mark) h

theorem quiet_walkBook {e : WaitEntry} (c r : FrameSlot) (h : (s.line e.line).rel.tone = .none) :
    Quiet e.line s (s.walkBook c e r) := by
  rw [Quiet, walkBook_line, walkedLine]
  dsimp only
  split <;> simp [Line.setting, movedLine, h]

theorem quiet_applyChange (c : FrameSlot) (change : PendingChange) (h : (s.line n).rel.tone = .none) :
    Quiet n s (s.applyChange n c change) := by
  unfold State.applyChange
  dsimp only
  split
  · exact .report (s := s) (quiet_enterFresh (s := (s.dropBookings (· = n)).addBooking _) h) _
  · split
    · exact quiet_guardWithRelease (s := s.dropBookings (· = n)) _ h
    · exact .report (s := s) (quiet_enterFresh (s := (s.dropBookings (· = n)).joinTail _) h) _

theorem quiet_frameEnd (c : FrameSlot) (h : (s.line n).rel.tone = .none) : Quiet n s (s.frameEnd c n) := by
  unfold State.frameEnd
  split
  · exact rfl
  · split
    · refine .report (s := s) ?_ _
      unfold State.ringToIdle
      split
      · exact quiet_guardWithRelease (s := s.dropBookings (· = n)) _ h
      · exact quiet_enterFresh (s := s.dropBookings (· = n)) h
    · split
      · exact quiet_applyChange c _ h
      · exact rfl

/-! ### The stages (R109) -/

theorem confined_frameEnds (s : State) (c : FrameSlot) : Confined s (s.frameEnds c) := by
  refine (Confined.refl s).foldl_works (works_frameEnd c) (fun _ _ => quiet_frameEnd c) fun n hn => .inl ?_
  obtain ⟨b, hb, rfl⟩ := List.mem_map.1 hn
  exact List.mem_map_of_mem (List.mem_filter.1 hb).1

theorem burstMarked_lines (s : State) (c : FrameSlot) :
    (burstMarked s c).map Booking.line = s.sched.bookings.map Booking.line := by
  rw [burstMarked_eq]
  exact map_line_map (fun b => by split <;> rfl) _

theorem tone_of_setting_eq {l l' : Line} (h : l'.setting = l.setting) : l'.rel.tone = l.rel.tone :=
  congrArg RelaySetting.tone h

theorem requested_tone (s : State) (c : FrameSlot) (n : LineNo) :
    ((requested s c).line n).rel.tone = (s.line n).rel.tone :=
  tone_of_setting_eq (requested_setting s c n)

theorem requested_sent (s : State) (c : FrameSlot) : (requested s c).sent = s.sent := by
  unfold requested
  rfl

theorem requested_sched (s : State) (c : FrameSlot) :
    (requested s c).sched = { s.sched with bookings := burstMarked s c } := by
  unfold requested
  rfl

theorem requested_shelf (s : State) (c : FrameSlot) : ShelfKept s (requested s c) := by
  unfold requested
  exact ⟨rfl, rfl, rfl, rfl, rfl, rfl, rfl, rfl, rfl, rfl⟩

theorem confined_requested (s : State) (c : FrameSlot) : Confined s (requested s c) where
  shelf := requested_shelf s c
  lists n hn := by
    rwa [Scheduler.Lists, requested_sched, burstMarked_lines] at hn
  lines n hn := by
    refine requested_line_of_none (List.find?_eq_none.2 fun b hb hbn => hn (.inl ?_)) c
    rw [← of_decide_eq_true hbn]
    exact List.mem_map_of_mem hb
  silent hs := ⟨requested_sent s c, fun n hn => (requested_tone s c n).trans (hs n hn)⟩

theorem aged_lines (s : State) (begun : List LineNo) :
    (s.aged begun).sched.waits.map WaitEntry.line = s.sched.waits.map WaitEntry.line :=
  map_line_map (fun e => by split <;> rfl) _

theorem confined_countWaits (s : State) (begun : List LineNo) : Confined s (s.countWaits begun) := by
  have hwaits := aged_lines s begun
  have haged : Confined s (s.aged begun) :=
    confined_lists rfl rfl fun n hn => hn.imp id fun hw => hwaits ▸ hw
  rw [countWaits_eq]
  refine haged.foldl_works works_endWait (fun _ _ => quiet_endWait) fun n hn => .inr ?_
  rw [← hwaits]
  exact mem_waits_of_leavers hn

theorem confined_evict (s : State) : Confined s s.evict := by
  have hsplit := kept_append_evicted s
  have hstruck : Confined s s.struck := confined_lists rfl rfl fun n hn => hn.imp (fun hb => by
    rw [← hsplit, List.map_append]
    exact List.mem_append_left _ hb) id
  have hevicted : ∀ b ∈ s.evicted, s.sched.Lists b.line := fun b hb => .inl (by
    rw [← hsplit, List.map_append]
    exact List.mem_append_right _ (List.mem_map_of_mem hb))
  have hlines (bs : List Booking) (rank : Nat) {x : State} (hx : Confined s x)
      (hbs : ∀ b ∈ bs, s.sched.Lists b.line) : Confined s (x.evictLines bs rank) := by
    induction bs generalizing x rank with
    | nil => exact hx
    | cons b bs ih =>
      exact ih (rank + 1) (hx.works (works_evictLine x b _) (hbs b (by simp)) (quiet_evictLine _))
        fun b' hb' => hbs b' (by simp [hb'])
  rw [evict_eq]
  refine (hlines s.evicted 1 hstruck hevicted).foldl_works works_reportEvicted (fun x n _ => ?_) fun n hn => ?_
  · split
    · exact x.report_setting n _
    · exact rfl
  · obtain ⟨b, hb, rfl⟩ := List.mem_map.1 hn
    exact hevicted b hb

theorem confined_reloadChanges (s : State) : Confined s s.reloadChanges :=
  confined_lists rfl rfl fun n hn => hn.imp (fun hb => by
    rwa [← map_line_map (f := fun b => if b.mask ≠ s.maskOf b.line b.party ∧ b.change = none then
      { b with change := some b.reloadChange } else b) fun b => ?_]
    split <;> rfl) id

theorem Confined.walk (c : FrameSlot) {es : List WaitEntry} (h₀ : Confined s₀ s)
    (he : ∀ e ∈ es, s₀.sched.Lists e.line) : Confined s₀ (State.walk c es s) := by
  induction es generalizing s with
  | nil => exact h₀
  | cons e es ih =>
    have hrest : ∀ x ∈ es, s₀.sched.Lists x.line := fun x hx => he x (by simp [hx])
    unfold State.walk
    split
    · exact ih (h₀.works (works_walkBook s c e _) (he e (by simp)) (quiet_walkBook c _)) hrest
    · split
      · exact h₀
      · exact ih h₀ hrest

theorem confined_walkTo (s : State) (c : FrameSlot) : Confined s (s.walkTo c) := by
  unfold State.walkTo
  split
  · exact (Confined.refl s).walk c fun e he => .inr (List.mem_map_of_mem he)
  · exact .refl s

end
end Sys2Proof.Machine
end

section
/-! PROOFS. O51: the walk of a boundary that is no frame boundary. -/

namespace Sys2Proof.Machine

open Sys2Proof.Safety

section

variable {s t m : State} {n : LineNo} {c : FrameSlot}

/-! ### The walk, whole (R114) -/

/-- R69: the ring states select no tone. -/
theorem toneless_of_tonesFit (hlists : ListsMatchStates s) (htones : TonesFit s) : Toneless s := by
  obtain ⟨hb, hw, -, -⟩ := hlists
  have htones : ∀ n, LineToneFits s n := htones
  rintro n (hn | hn)
  · exact (htones n).tone_none ((hb n).1 hn) fun _ => rfl
  · exact (htones n).tone_none ((hw n).1 hn) fun _ => rfl

/-- R104: a line that waits has no booking. -/
theorem unbooked_of_lists (hlists : ListsMatchStates s) : ∀ e ∈ s.sched.waits,
    e.line ∉ s.sched.bookings.map Booking.line := by
  obtain ⟨hb, hw, -, -⟩ := hlists
  intro e he hm
  have hwait := (hw e.line).1 (List.mem_map_of_mem he)
  rw [(hb e.line).1 hm] at hwait
  cases hwait

theorem walked_of_planOf {plan : LineNo → Option FrameSlot} (h : PlanOf c m.sched.waits m t plan)
    (hframe : t = { m with sched := t.sched, lines := t.lines }) : Walked c m t := by
  refine ⟨plan, h.tried, h.sched, fun e he => ?_, fun n hn => h.kept n (h.unplanned n hn), hframe⟩
  split
  · next r hr => exact h.booked e he r hr
  · next hnone => exact h.kept _ hnone

theorem walked_walk (hlists : ListsMatchStates m) (htoneless : Toneless m) :
    Walked c m (State.walk c m.sched.waits m) := by
  obtain ⟨plan, hplan⟩ := exists_planOf_walk (s := m) c (waits_nodup hlists) (unbooked_of_lists hlists)
  have hconfined : Confined m (State.walk c m.sched.waits m) :=
    (Confined.refl m).walk c fun e he => .inr (List.mem_map_of_mem he)
  have ⟨hsent, _⟩ := hconfined.silent htoneless
  exact walked_of_planOf hplan (eq_of_shelfKept hconfined.shelf hsent)

theorem walkedTo_walkTo (hlists : m.source.state = .running → ListsMatchStates m) (htoneless : Toneless m) :
    WalkedTo c m (m.walkTo c) := by
  unfold WalkedTo State.walkTo
  split
  · next hrun => exact walked_walk (hlists hrun) htoneless
  · rfl

/-! ### The state that is walked (R109) -/

theorem listsMatchStates_congr (hb : t.sched.bookings.map Booking.line = s.sched.bookings.map Booking.line)
    (hw : t.sched.waits.map WaitEntry.line = s.sched.waits.map WaitEntry.line)
    (hst : ∀ n, t.stateOf n = s.stateOf n) (h : ListsMatchStates s) : ListsMatchStates t := by
  unfold ListsMatchStates
  simpa only [hb, hw, hst] using h

theorem requested_sup (s : State) (c : FrameSlot) (n : LineNo) :
    ((requested s c).line n).sup = (s.line n).sup := by
  cases h : s.bookingOf n with
  | none => rw [requested_line_of_none h]
  | some b => rw [requested_line_of_booking h]

theorem requested_lists (h : ListsMatchStates s) (c : FrameSlot) : ListsMatchStates (requested s c) := by
  refine listsMatchStates_congr ?_ ?_ (fun n => congrArg Supervision.state (requested_sup s c n)) h
  · rw [requested_sched, burstMarked_lines]
  · rw [requested_sched]

theorem landed_sched (s : State) (early late : List BusWrite) : (s.landed early late).sched = s.sched := by
  simp [State.landed]

theorem landed_line (s : State) (early late : List BusWrite) (n : LineNo) :
    (s.landed early late).line n = s.line n := by
  simp [State.landed]

theorem landed_control (s : State) (early late : List BusWrite) :
    (s.landed early late).control = s.control := by
  simp [State.landed]

theorem landed_lists (h : ListsMatchStates s) (early late : List BusWrite) :
    ListsMatchStates (s.landed early late) :=
  listsMatchStates_congr (by rw [landed_sched]) (by rw [landed_sched])
    (fun n => congrArg (fun l : Line => l.sup.state) (landed_line s early late n)) h

theorem landed_toneless (h : Toneless s) (early late : List BusWrite) : Toneless (s.landed early late) := by
  intro n hn
  rw [landed_sched] at hn
  rw [landed_line]
  exact h n hn

/-- The state that the walk of a boundary off the frame boundary starts from. -/
def State.toWalk (s : State) (c : FrameSlot) (e : Nat) (early late : List BusWrite) : State :=
  (requested (clocked s c e) c).landed early late

section

variable {e : Nat} {early late : List BusWrite}

theorem toWalk_lists (h : ListsMatchStates s) : ListsMatchStates (s.toWalk c e early late) :=
  landed_lists (requested_lists (s := clocked s c e) h c) early late

theorem toWalk_toneless (hlists : ListsMatchStates s) (htones : TonesFit s) :
    Toneless (s.toWalk c e early late) :=
  landed_toneless ((confined_requested (clocked s c e) c).toneless (toneless_of_tonesFit hlists htones)) early late

theorem toWalk_sched : (s.toWalk c e early late).sched =
    { s.sched with slot := c, nextBoundary := some (e + 500), bookings := burstMarked s c } := by
  rw [State.toWalk, landed_sched, requested_sched]
  rfl

theorem toWalk_control : (s.toWalk c e early late).control = s.control :=
  (landed_control _ early late).trans (requested_shelf (clocked s c e) c).control

theorem toWalk_source : (s.toWalk c e early late).source = s.source := by
  obtain ⟨-, -, -, -, -, -, hsource, -⟩ := requested_shelf (clocked s c e) c
  have hlanded : (s.toWalk c e early late).source = (requested (clocked s c e) c).source := by
    simp [State.toWalk, State.landed]
  exact hlanded.trans hsource

theorem toWalk_shelfTime : (s.toWalk c e early late).shelfTime = s.shelfTime := by
  have hlanded : (s.toWalk c e early late).shelfTime = (requested (clocked s c e) c).shelfTime := by
    simp [State.toWalk, State.landed]
  exact hlanded.trans (requested_shelf (clocked s c e) c).shelfTime

theorem toWalk_line (h : n ∉ s.sched.bookings.map Booking.line) :
    (s.toWalk c e early late).line n = s.line n := by
  rw [State.toWalk, landed_line]
  refine requested_line_of_none (s := clocked s c e) (List.find?_eq_none.2 fun b hb hbn => h ?_) c
  rw [← of_decide_eq_true hbn]
  exact List.mem_map_of_mem hb

/-- R109: off the frame boundary, where no frame ends, a RUNNING source has the wait list walked. -/
theorem exec_slotBoundary_walk (h : Boundary s c e) (hno : NoFrameEnds s c) (hc : c ≠ 0)
    (hrun : s.source.state = .running) (early late : List BusWrite) :
    exec (.slotBoundary early late) s = .next (State.walk c s.sched.waits (s.toWalk c e early late)) := by
  rw [exec_slotBoundary_of_ne_zero h hno hc]
  change Host.Outcome.next ((s.toWalk c e early late).walkTo c) = _
  rw [State.walkTo, toWalk_source, if_pos hrun, toWalk_sched]

end

/-! ### The head of the wait list (R98, R114) -/

theorem firstFit_unique {p : Fin 4} {d d' : Fin 12} (h : FirstFit s n p c d) (h' : FirstFit s n p c d') :
    d = d' := by
  obtain ⟨hfit, hbefore⟩ := h
  obtain ⟨hfit', hbefore'⟩ := h'
  rcases lt_trichotomy d d' with hlt | heq | hlt
  · exact absurd hfit (hbefore' d hlt)
  · exact heq
  · exact absurd hfit' (hbefore d' hlt)

/-- R98: the plan for the head of the list is the first rotation at which it fits, if there is one. -/
theorem PlanOf.head {w : WaitEntry} {ws : List WaitEntry} {plan : LineNo → Option FrameSlot}
    (h : PlanOf c (w :: ws) m t plan) : Tried m c w (plan w.line) := by
  have hhead := h.tried [] w ws rfl
  rw [if_pos (by simp)] at hhead
  exact (tried_congr (s := m) (t := laden m c plan []) rfl rfl (laden_nil_loads m c plan)).1 hhead

theorem Tried.eq_some {w : WaitEntry} {o : Option FrameSlot} {d : Fin 12} (h : Tried m c w o)
    (hfirst : FirstFit m w.line w.party c d) : o = some (c + d) := by
  obtain ⟨hsome, hnone⟩ := h
  cases o with
  | none => exact absurd hfirst.1 (hnone rfl _)
  | some r =>
    obtain ⟨d', rfl, hfirst'⟩ := hsome r rfl
    rw [firstFit_unique hfirst hfirst']

theorem Tried.eq_none {w : WaitEntry} {o : Option FrameSlot} (h : Tried m c w o)
    (hno : ∀ j : Fin 12, ¬FitsAt m w.line w.party (c + j)) : o = none := by
  cases o with
  | none => rfl
  | some r =>
    obtain ⟨d, rfl, hfirst⟩ := h.1 r rfl
    exact absurd hfirst.1 (hno d)

/-- R114: a blocking head that is not booked holds every entry. -/
theorem PlanOf.blocked {w : WaitEntry} {ws : List WaitEntry} {plan : LineNo → Option FrameSlot}
    (h : PlanOf c (w :: ws) m t plan) (hnone : plan w.line = none) (hblocking : w.blocking = true) (n : LineNo) :
    plan n = none := by
  by_cases hn : n ∈ (w :: ws).map WaitEntry.line
  · obtain ⟨x, hx, rfl⟩ := List.mem_map.1 hn
    rcases List.mem_cons.1 hx with rfl | hx
    · exact hnone
    · obtain ⟨ahead, behind, rfl⟩ := List.append_of_mem hx
      have hheld := h.tried (w :: ahead) x behind rfl
      rwa [if_neg fun hall => by simp [hall w (by simp) hnone] at hblocking] at hheld
  · exact h.unplanned n hn

/-- R114: the line of the head, booked at rotation c + d, is told from the state before the boundary. -/
theorem walkedLine_add (s : State) (c : FrameSlot) (w : WaitEntry) (d : Fin 12) : walkedLine s c w (c + d) =
    (let l := movedLine (s.line w.line) .ringing
    let lead := l.sup.parties[w.party].lead
    let booked := if d = 0 then { l with rel := { l.rel with
      pending := if l.rel.ringRelay = some lead then .none else .operate lead } } else l
    { booked with rep := (reported s l (.ringBooked d.val (c + d))).rep }) := by
  simp only [walkedLine, add_eq_left, add_sub_cancel_left]

/-- R106, R114: the head that fits first at rotation c + d is booked there. -/
theorem walk_books_head {w : WaitEntry} {ws : List WaitEntry} (hw : s.sched.waits = w :: ws)
    (hlists : ListsMatchStates s) (e : Nat) (early late : List BusWrite) {d : Fin 12}
    (hfirst : FirstFit s w.line w.party c d) :
    let t := State.walk c s.sched.waits (s.toWalk c e early late)
    t.line w.line = walkedLine s c w (c + d) ∧ walkedBooking s c w (c + d) ∈ t.sched.bookings ∧
      w.line ∉ t.sched.waits.map WaitEntry.line := by
  have hunbooked := unbooked_of_lists hlists w (by simp [hw])
  have hline : (s.toWalk c e early late).line w.line = s.line w.line := toWalk_line hunbooked
  have hcontrol : (s.toWalk c e early late).control = s.control := toWalk_control
  have hlists' : ListsMatchStates (s.toWalk c e early late) := toWalk_lists hlists
  have hwaits : (s.toWalk c e early late).sched.waits = w :: ws := by rw [toWalk_sched, hw]
  obtain ⟨plan, hplan⟩ := exists_planOf_walk (s := s.toWalk c e early late) c
    (waits_nodup hlists') (unbooked_of_lists hlists')
  rw [hwaits] at hplan
  have hsome : plan w.line = some (c + d) := hplan.head.eq_some
    ((firstFit_congr hline hcontrol (by rw [toWalk_sched])).2 hfirst)
  rw [hw]
  refine ⟨?_, ?_, ?_⟩
  · rw [hplan.booked w (by simp) _ hsome]
    exact walkedLine_congr hline hcontrol toWalk_shelfTime c _
  · rw [hplan.sched, planned_cons_some hsome, walkedBooking_congr hline hcontrol]
    simp
  · intro hmem
    obtain ⟨x, hx, hline⟩ := List.mem_map.1 hmem
    rw [hplan.sched] at hx
    have hnone := (List.mem_filter.1 hx).2
    rw [hline, hsome] at hnone
    cases hnone

/-- R114: a blocking head that fits nowhere holds every entry. -/
theorem walk_blocked_head {w : WaitEntry} {ws : List WaitEntry} (hw : s.sched.waits = w :: ws)
    (hlists : ListsMatchStates s) (e : Nat) (early late : List BusWrite)
    (hno : ∀ j : Fin 12, ¬FitsAt s w.line w.party (c + j)) (hblocking : w.blocking = true) :
    let t := State.walk c s.sched.waits (s.toWalk c e early late)
    t.sched.waits = s.sched.waits ∧ t.sched.bookings = burstMarked s c ∧ t.line w.line = s.line w.line := by
  have hunbooked := unbooked_of_lists hlists w (by simp [hw])
  have hline : (s.toWalk c e early late).line w.line = s.line w.line := toWalk_line hunbooked
  have hlists' : ListsMatchStates (s.toWalk c e early late) := toWalk_lists hlists
  have hwaits : (s.toWalk c e early late).sched.waits = w :: ws := by rw [toWalk_sched, hw]
  obtain ⟨plan, hplan⟩ := exists_planOf_walk (s := s.toWalk c e early late) c
    (waits_nodup hlists') (unbooked_of_lists hlists')
  rw [hwaits] at hplan
  have hnone : plan w.line = none := hplan.head.eq_none fun j hj => hno j
    ((fitsAt_congr hline toWalk_control (by rw [toWalk_sched])).1 hj)
  have hall := hplan.blocked hnone hblocking
  have hplanned : planned (s.toWalk c e early late) c plan (w :: ws) = [] := planned_of_none fun x _ => hall x.line
  rw [hw]
  refine ⟨?_, ?_, (hplan.kept _ hnone).trans hline⟩
  · rw [hplan.sched, hwaits]
    simp [hall]
  · rw [hplan.sched, hplanned, List.append_nil, toWalk_sched]

end

/-- Settles O51: the walk has a plan, `exists_planOf_walk`, and what the head is given is the plan's first entry. -/
theorem walkServesHead : Obligations.WalkServesHead := by
  constructor
  · intro s w hhead e early late _ c n h hc hno hlists hrun
    obtain ⟨ws, hw⟩ := List.head?_eq_some_iff.1 hhead
    have hexec := exec_slotBoundary_walk h hno hc hrun early late
    refine ⟨fun d hfit hbefore => ?_, fun hnofit hblocking => ?_⟩
    · obtain ⟨hline, hbooked, hleft⟩ := walk_books_head hw hlists e early late ⟨hfit, hbefore⟩
      have hfirst : decide (c + d = c) = decide (d = 0) := by simp
      rw [walkedBooking, hfirst] at hbooked
      exact ⟨_, hexec, hline.trans (walkedLine_add s c w d), hbooked, hleft⟩
    · exact ⟨_, hexec, walk_blocked_head hw hlists e early late hnofit hblocking⟩
  · intro s c e early late h hc hno hlists htones hrun
    have hwalked := walked_walk (c := c) (m := s.toWalk c e early late) (toWalk_lists hlists)
      (toWalk_toneless hlists htones)
    rw [toWalk_sched] at hwalked
    exact ⟨_, exec_slotBoundary_walk h hno hc hrun early late, hwalked⟩

end Sys2Proof.Machine
end

section
/-! PROOFS. O48, the frame of every boundary, and the boundary at which nothing ends, loads or is walked. -/

namespace Sys2Proof.Machine

open Sys2Proof.Safety

section

variable {s x y t : State} {n : LineNo} {c : FrameSlot} {e : Nat} {early late : List BusWrite}

/-! ### The writes and the load of stage 4 (R20, R22) -/

/-- R20: a load, whole: Shelf Control, the port with the writes, and the blocking flags. -/
theorem loadMeeting_update (x : State) (early late : List BusWrite) : x.loadMeeting early late = { x with
    control := { x.control with
      params := (x.writes early).loadedParams, generationTaken := (x.writes early).generationField
      profileAdjusted := (x.writes early).profileMap, codeAdjusted := (x.writes early).codeMap }
    port := { (x.landed early late).port with
      parametersAdjusted := x.port.parametersAdjusted || (x.writes early).loadAdjusts }
    sched := { x.sched with
      waits := x.sched.waits.map fun w => w.judged (x.writes early).loadedParams.priorityAge } } := by
  rw [loadMeeting_of_withBits (s := x) (u := x) (r := x.port.run) (e := x.port.interruptEnable)
    (a := x.port.parametersAdjusted) rfl, State.landed_eq, writes_withBits_self]
  rfl

/-- R20: what the writes that meet a boundary leave, with a load or without: the port and Shelf Control may change,
and the wait entries keep their lines. -/
structure Loaded (x : State) (early late : List BusWrite) (y : State) : Prop where
  frame : y = { x with
    control := y.control, port := y.port, sched := { x.sched with waits := y.sched.waits } }
  waits : y.sched.waits.map WaitEntry.line = x.sched.waits.map WaitEntry.line
  port : y.port = { (x.landed early late).port with parametersAdjusted := y.port.parametersAdjusted }
  shelf : y.control.shelf = x.control.shelf
  startingEnd : y.control.startingEnd = x.control.startingEnd

theorem landed_update (x : State) (early late : List BusWrite) :
    x.landed early late = { x with port := (x.landed early late).port } :=
  landed_of_port_eq (s := x) rfl early late

theorem loaded_landed (x : State) (early late : List BusWrite) : Loaded x early late (x.landed early late) := by
  rw [landed_update]
  exact ⟨rfl, rfl, rfl, rfl, rfl⟩

theorem loaded_loadMeeting (x : State) (early late : List BusWrite) :
    Loaded x early late (x.loadMeeting early late) := by
  rw [loadMeeting_update]
  exact ⟨rfl, map_line_map (f := fun w : WaitEntry => w.judged _) (fun _ => rfl) _, rfl, rfl, rfl⟩

theorem Loaded.lists (h : Loaded x early late y) (n : LineNo) : y.sched.Lists n ↔ x.sched.Lists n := by
  have hbookings : y.sched.bookings = x.sched.bookings := by rw [h.frame]
  rw [Scheduler.Lists, Scheduler.Lists, hbookings, h.waits]

theorem Loaded.line (h : Loaded x early late y) (n : LineNo) : y.line n = x.line n :=
  State.line_congr (by rw [h.frame]) n

theorem Loaded.toneless (h : Loaded x early late y) (hx : Toneless x) : Toneless y := fun n hn => by
  rw [h.line]
  exact hx n ((h.lists n).1 hn)

/-- R22: the reload check is the writes alone, or a load and then the eviction and the changes. -/
theorem reloadCheck_cases (x : State) (early late : List BusWrite) :
    ∃ y, Loaded x early late y ∧ Confined y (x.reloadCheck early late) := by
  unfold State.reloadCheck
  split
  · exact ⟨_, loaded_landed x early late, .refl _⟩
  · exact ⟨_, loaded_loadMeeting x early late, (confined_evict _).trans (confined_reloadChanges _)⟩

/-! ### The frame of a boundary (R109) -/

/-- Stages 1 to 3 and the frame boundary work work on the listed lines, then the writes land, and then the eviction
and the walk work on the listed lines. -/
theorem boundaryFrame_of_loaded (hx : Confined (clocked s (s.sched.slot + 1) e) x) (hy : Loaded x early late y)
    (hoff : s.sched.slot + 1 ≠ 0 → y = x.landed early late) (ht : Confined y t) :
    BoundaryFrame s early late t := by
  have hxport : x.port = s.port := hx.shelf.port
  have hlanded : (x.landed early late).port = (s.landed early late).port := by
    rw [landed_of_port_eq hxport]
  have hport : t.port = { (s.landed early late).port with parametersAdjusted := t.port.parametersAdjusted } := by
    rw [ht.shelf.port, ← hlanded]
    exact hy.port
  have hcontrol : x.control = s.control := hx.shelf.control
  obtain ⟨-, -, hvisit, hslots, -, -, hsource, hlatch, htime, hpending⟩ := hx.shelf
  obtain ⟨-, htcontrol, htvisit, htslots, -, -, htsource, htlatch, httime, htpending⟩ := ht.shelf
  have hframe := hy.frame
  refine ⟨hport, ?_, ?_, fun hne => ?_, hostBytesKept_of_mem (by rw [hport]), ?_, ?_, ?_, ?_, ?_, ?_,
    fun n hb hw => ?_⟩
  · rw [htcontrol, hy.shelf, hcontrol]
  · rw [htcontrol, hy.startingEnd, hcontrol]
  · rw [htcontrol, ht.shelf.port, hoff hne, landed_control, hlanded, hcontrol]
    exact ⟨rfl, rfl⟩
  · rw [htslots, hframe]
    exact hslots
  · rw [htvisit, hframe]
    exact hvisit
  · rw [htsource, hframe]
    exact hsource
  · rw [htlatch, hframe]
    exact hlatch
  · rw [httime, hframe]
    exact htime
  · rw [htpending, hframe]
    exact hpending
  · have hn : ¬(clocked s (s.sched.slot + 1) e).sched.Lists n := fun hl => hl.elim hb hw
    rw [ht.lines n fun hl => hn (hx.lists n ((hy.lists n).1 hl)), hy.line, hx.lines n hn]
    rfl

theorem boundaryFrame_landed (s : State) (early late : List BusWrite) :
    BoundaryFrame s early late (s.landed early late) := by
  refine ⟨rfl, by rw [landed_control], by rw [landed_control], fun _ => ⟨landed_control s early late, rfl⟩,
    fun _ _ => rfl, ?_, ?_, ?_, ?_, ?_, ?_, fun n _ _ => landed_line s early late n⟩ <;> simp [State.landed]

theorem boundaryFrame_boundary (s : State) (e : Nat) (early late : List BusWrite) :
    BoundaryFrame s early late (s.boundary false e early late) := by
  have hstages : s.boundary false e early late =
      (((clocked s (s.sched.slot + 1) e).frameEnds (s.sched.slot + 1)).relayRequests
        (s.sched.slot + 1)).boundaryTail (s.sched.slot + 1) (s.sched.waits.map WaitEntry.line) early late := rfl
  rw [hstages, relayRequests_eq, boundaryTail_eq]
  have hrequested := (confined_frameEnds (clocked s (s.sched.slot + 1) e) (s.sched.slot + 1)).trans
    (confined_requested _ (s.sched.slot + 1))
  split
  · next hc =>
    obtain ⟨y, hy, ht⟩ := reloadCheck_cases
      ((requested ((clocked s (s.sched.slot + 1) e).frameEnds (s.sched.slot + 1)) (s.sched.slot + 1)).countWaits
        (s.sched.waits.map WaitEntry.line)) early late
    exact boundaryFrame_of_loaded (hrequested.trans (confined_countWaits _ _)) hy (fun hne => absurd hc hne)
      (ht.trans (confined_walkTo _ _))
  · exact boundaryFrame_of_loaded hrequested (loaded_landed _ early late) (fun _ => rfl) (confined_walkTo _ _)

theorem boundaryFrame_takeBoundary (s : State) (early late : List BusWrite) :
    BoundaryFrame s early late (s.takeBoundary early late) := by
  unfold State.takeBoundary
  split
  · exact boundaryFrame_boundary s _ early late
  · exact boundaryFrame_landed s early late

/-- R109: every row of a boundary is the boundary or the writes that it carries. -/
theorem exec_boundaryRow {i : Instr} (hi : i = .slotBoundary early late ∨ i = .ringEndNoAnswer n early late ∨
    i = .ringEndWaitLimit n early late) (s : State) :
    ∃ t, exec i s = .next t ∧ BoundaryFrame s early late t := by
  have hboundary := boundaryFrame_takeBoundary s early late
  have guarded (b : Bool) :
      BoundaryFrame s early late (if b then s.takeBoundary early late else s.landed early late) := by
    split
    · exact hboundary
    · exact boundaryFrame_landed s early late
  rcases hi with rfl | rfl | rfl
  · exact ⟨_, rfl, hboundary⟩
  · exact ⟨_, rfl, guarded _⟩
  · exact ⟨_, rfl, guarded _⟩

/-! ### The plain boundary (R91, R112) -/

/-- R109: with no source or no wait entry nothing is walked. -/
theorem walkTo_of_nothing (h : x.source.state ≠ .running ∨ x.sched.waits = []) (c : FrameSlot) :
    x.walkTo c = x := by
  unfold State.walkTo
  rcases h with h | h
  · rw [if_neg h]
  · rw [h]
    exact ite_self _

theorem toWalk_eq : s.toWalk c e early late = { s.landed early late with
    sched := (s.toWalk c e early late).sched, lines := (s.toWalk c e early late).lines } := by
  have hrequested := eq_of_shelfKept (requested_shelf (clocked s c e) c) (requested_sent (clocked s c e) c)
  have hlanded := landed_of_port_eq (u := requested (clocked s c e) c) (s := s)
    (requested_shelf (clocked s c e) c).port early late
  rw [landed_update s, State.toWalk, hlanded]
  exact congrArg (fun r : State => { r with port := (s.landed early late).port }) hrequested

theorem toWalk_line_of_booking {b : Booking} (hnodup : (s.sched.bookings.map Booking.line).Nodup)
    (hb : b ∈ s.sched.bookings) : (s.toWalk c e early late).line b.line = { s.line b.line with
      rel := { (s.line b.line).rel with pending := followed b c (s.line b.line) } } := by
  rw [State.toWalk, landed_line]
  exact requested_line_of_booking (s := clocked s c e) (find?_of_nodup_lines hnodup hb) c

end
end Sys2Proof.Machine
end

section
/-! PROOFS. O48, stage 4: the counting of the waits is `counted`. -/

namespace Sys2Proof.Machine

open Sys2Proof.Safety

section

variable {s x : State} {n : LineNo} {begun : List LineNo}

/-! ### The entries that leave (R113) -/

theorem mem_leavers : n ∈ s.leavers ↔
    ∃ w ∈ s.sched.waits, w.line = n ∧ s.control.params.waitLimit ≤ w.framesWaited := by
  simp only [State.leavers, List.mem_map, List.mem_filter, decide_eq_true_eq]
  exact exists_congr fun w => by tauto

/-- Where no line has two entries, those that leave are those at the limit. -/
theorem mem_leavers_of_nodup (hnodup : (s.sched.waits.map WaitEntry.line).Nodup) {w : WaitEntry}
    (hw : w ∈ s.sched.waits) : w.line ∈ s.leavers ↔ s.control.params.waitLimit ≤ w.framesWaited := by
  refine mem_leavers.trans ⟨?_, fun h => ⟨w, hw, rfl, h⟩⟩
  rintro ⟨v, hv, hline, hlimit⟩
  rwa [List.inj_on_of_nodup_map hnodup hv hw hline] at hlimit

theorem filter_leavers (hnodup : (s.sched.waits.map WaitEntry.line).Nodup) :
    s.sched.waits.filter (fun w => decide (w.line ∉ s.leavers)) =
      s.sched.waits.filter fun w => decide (w.framesWaited < s.control.params.waitLimit) :=
  List.filter_congr fun w hw => by
    simp only [mem_leavers_of_nodup hnodup hw, Nat.not_le]

/-! ### The leaving of several lines -/

theorem foldl_endWait_line {ns : List LineNo} (hnodup : ns.Nodup) (s : State) (n : LineNo) :
    (ns.foldl State.endWait s).line n =
      if n ∈ ns then reported s (movedLine (s.line n) .idle) .ringEndWaitLimit else s.line n := by
  induction ns generalizing s with
  | nil => rfl
  | cons m ns ih =>
    obtain ⟨hm, hnodup⟩ := List.nodup_cons.1 hnodup
    have htouch := (works_endWait s m).touches
    rw [List.foldl_cons, ih hnodup]
    by_cases hnm : n = m
    · subst hnm
      rw [if_neg hm, if_pos (by simp), State.endWait, State.report_line_same, State.updLine_line_same]
      rfl
    · rw [htouch.others.1 n hnm, reported, reported, htouch.shelf.control, htouch.shelf.shelfTime]
      simp only [List.mem_cons, hnm, false_or]

theorem foldl_endWait_sched (ns : List LineNo) (s : State) : (ns.foldl State.endWait s).sched =
    { s.sched with waits := s.sched.waits.filter fun w => decide (w.line ∉ ns) } := by
  induction ns generalizing s with
  | nil => simp
  | cons m ns ih =>
    have hone : (s.endWait m).sched =
        { s.sched with waits := s.sched.waits.filter fun w => decide (w.line ≠ m) } := by
      simp [State.endWait, State.dropWaits]
    have hfilter (ws : List WaitEntry) : (ws.filter fun w => decide (w.line ≠ m)).filter (fun w =>
        decide (w.line ∉ ns)) = ws.filter fun w => decide (w.line ∉ m :: ns) := by
      rw [List.filter_filter]
      exact List.filter_congr fun w _ => by simp [Bool.and_comm]
    rw [List.foldl_cons, ih, hone, hfilter]

/-! ### The counted state -/

theorem counted_sched (x : State) (begun : List LineNo) : (counted x begun).sched = { x.sched with
    waits := (x.aged begun).sched.waits.filter fun w =>
      decide (w.framesWaited < x.control.params.waitLimit) } := by
  unfold counted
  rfl

theorem counted_shelf (x : State) (begun : List LineNo) : ShelfKept x (counted x begun) := by
  unfold counted
  exact ⟨rfl, rfl, rfl, rfl, rfl, rfl, rfl, rfl, rfl, rfl⟩

theorem counted_sent (x : State) (begun : List LineNo) : (counted x begun).sent = x.sent := by
  unfold counted
  rfl

theorem counted_line (x : State) (begun : List LineNo) (n : LineNo) : (counted x begun).line n =
    if n ∈ (x.aged begun).leavers then reported x (movedLine (x.line n) .idle) .ringEndWaitLimit else x.line n := by
  have hany : (x.aged begun).sched.waits.any (fun w => decide (w.line = n ∧
      x.control.params.waitLimit ≤ w.framesWaited)) = true ↔ n ∈ (x.aged begun).leavers := by
    rw [List.any_eq_true, mem_leavers]
    simp [State.aged]
  have hline : (counted x begun).line n = if (x.aged begun).sched.waits.any (fun w => decide (w.line = n ∧
      x.control.params.waitLimit ≤ w.framesWaited)) = true
      then reported x (movedLine (x.line n) .idle) .ringEndWaitLimit else x.line n := by
    unfold counted
    exact Vector.getElem_ofFn _
  rw [hline]
  exact if_congr hany rfl rfl

/-- R113: the counting of the waits, where no line has two entries and the listed lines have no tone. -/
theorem countWaits_eq_counted (hnodup : (x.sched.waits.map WaitEntry.line).Nodup) (htoneless : Toneless x)
    (begun : List LineNo) : x.countWaits begun = counted x begun := by
  have haged : ((x.aged begun).sched.waits.map WaitEntry.line).Nodup := aged_lines x begun ▸ hnodup
  have hlines : (x.countWaits begun).lines = (counted x begun).lines := lines_ext fun n => by
    rw [countWaits_eq, foldl_endWait_line (leavers_nodup haged), counted_line]
    rfl
  have hsched : (x.countWaits begun).sched = (counted x begun).sched := by
    rw [countWaits_eq, foldl_endWait_sched, filter_leavers haged, counted_sched]
    rfl
  have hconfined := confined_countWaits x begun
  have ⟨hsent, _⟩ := hconfined.silent htoneless
  rw [eq_of_shelfKept hconfined.shelf hsent, eq_of_shelfKept (counted_shelf x begun) (counted_sent x begun),
    hlines, hsched]

theorem counted_stateOf (x : State) (begun : List LineNo) (n : LineNo) : (counted x begun).stateOf n =
    if n ∈ (x.aged begun).leavers then .idle else x.stateOf n := by
  rw [State.stateOf, counted_line]
  split <;> rfl

theorem counted_lists (h : ListsMatchStates x) (begun : List LineNo) : ListsMatchStates (counted x begun) := by
  have ⟨hb, hw, hbn, hwn⟩ := h
  have hwaits := aged_lines x begun
  rw [← hwaits] at hw hwn
  have hleave (n : LineNo) (hn : n ∈ (x.aged begun).leavers) : x.stateOf n = .ringWait :=
    (hw n).1 (mem_waits_of_leavers hn)
  have hfilter := filter_leavers hwn
  refine ⟨fun n => ?_, fun n => ?_, ?_, ?_⟩
  · rw [counted_sched, hb, counted_stateOf]
    split
    · next hn => simp [hleave n hn]
    · rfl
  · have hmem : n ∈ (counted x begun).sched.waits.map WaitEntry.line ↔
        n ∈ (x.aged begun).sched.waits.map WaitEntry.line ∧ n ∉ (x.aged begun).leavers := by
      rw [counted_sched]
      dsimp only
      rw [show x.control.params.waitLimit = (x.aged begun).control.params.waitLimit from rfl, ← hfilter]
      simp only [List.mem_map, List.mem_filter, decide_eq_true_eq]
      exact ⟨fun ⟨w, ⟨hm, hl⟩, hn⟩ => ⟨⟨w, hm, hn⟩, hn ▸ hl⟩,
        fun ⟨⟨w, hm, hn⟩, hl⟩ => ⟨w, ⟨hm, hn ▸ hl⟩, hn⟩⟩
    rw [hmem, hw, counted_stateOf]
    split
    · next hn => simp [hn]
    · next hn => simp [hn]
  · rw [counted_sched]
    exact hbn
  · rw [counted_sched]
    exact hwn.sublist (List.filter_sublist.map _)

end
end Sys2Proof.Machine
end

section
/-! PROOFS. O48, stage 4: the eviction of a reload is `Evicted`. -/

namespace Sys2Proof.Machine

open Sys2Proof.Safety

section

variable {s : State} {n : LineNo} {b : Booking} {bs : List Booking} {mark : EvictionMark}

/-! ### Places in the wait list (R102) -/

theorem insertBehindLast_of_none {p : WaitEntry → Bool} (e : WaitEntry) {rest : List WaitEntry}
    (h : ∀ w ∈ rest, p w = false) : insertBehindLast p e rest = none := by
  induction rest with
  | nil => rfl
  | cons w rest ih => simp [insertBehindLast, ih fun x hx => h x (by simp [hx]), h w (by simp)]

/-- R102: behind the entries that `p` picks, which stand at the head, and before the others. -/
theorem insertBehindLast_append {p : WaitEntry → Bool} (e : WaitEntry) {front rest : List WaitEntry}
    (hfront : ∀ w ∈ front, p w = true) (hrest : ∀ w ∈ rest, p w = false) :
    (insertBehindLast p e (front ++ rest)).getD (e :: (front ++ rest)) = front ++ e :: rest := by
  have hsome (w : WaitEntry) (front : List WaitEntry) (h : ∀ x ∈ w :: front, p x = true) :
      insertBehindLast p e ((w :: front) ++ rest) = some ((w :: front) ++ e :: rest) := by
    induction front generalizing w with
    | nil => simp [insertBehindLast, insertBehindLast_of_none e hrest, h w (by simp)]
    | cons x front ih =>
      have hinner := ih x fun y hy => h y (List.mem_cons_of_mem _ hy)
      rw [List.cons_append, insertBehindLast, hinner]
      rfl
  cases front with
  | nil => rw [List.nil_append, insertBehindLast_of_none e hrest]; rfl
  | cons w front => rw [hsome w front hfront]; rfl

/-! ### One evicted line (R101, R102) -/

theorem relayBusy_iff {l : Line} : l.relayBusy = true ↔ Busy l := by
  simp [Line.relayBusy, Busy, Option.isSome_iff_ne_none]

/-- R101: the line of an evicted booking. -/
def evictedLine (s : State) (b : Booking) (mark : EvictionMark) : Line :=
  if (s.line b.line).relayBusy then
    guardedLine (s.line b.line) (.ringWait (.evicted mark) (evictedParty b).1 (evictedParty b).2)
  else movedLine (s.line b.line) .ringWait

theorem waiting_eq (b : Booking) : b.waiting = evictedParty b := by
  unfold Booking.waiting evictedParty
  cases b.change <;> rfl

theorem evictLine_line (s : State) (b : Booking) (mark : EvictionMark) :
    (s.evictLine b mark).line b.line = evictedLine s b mark := by
  unfold State.evictLine evictedLine
  rw [← waiting_eq]
  dsimp only
  split
  · rw [State.guardWithRelease, State.updLine_line_same]
    rfl
  · rw [State.updLine_line_same]
    rfl

theorem evictLine_bookings (s : State) (b : Booking) (mark : EvictionMark) :
    (s.evictLine b mark).sched = { s.sched with waits := (s.evictLine b mark).sched.waits } := by
  unfold State.evictLine
  dsimp only
  split <;> rfl

theorem evictLine_waits_of_busy (h : (s.line b.line).relayBusy = true) (mark : EvictionMark) :
    (s.evictLine b mark).sched.waits = s.sched.waits := by
  unfold State.evictLine
  dsimp only
  rw [if_pos h]
  rfl

theorem evictLine_waits (h : (s.line b.line).relayBusy = false) {front rest : List WaitEntry}
    (hwaits : s.sched.waits = front ++ rest) (hfront : ∀ w ∈ front, mark.behind w = true)
    (hrest : ∀ w ∈ rest, mark.behind w = false) : (s.evictLine b mark).sched.waits =
      front ++ joining b.line (evictedParty b).1 (evictedParty b).2 (some mark) :: rest := by
  unfold State.evictLine
  rw [← waiting_eq]
  dsimp only
  rw [if_neg (by simp [h])]
  have hplace := insertBehindLast_append (newWait b.line b.waiting.1 b.waiting.2 (some mark)) hfront hrest
  rw [← hwaits] at hplace
  exact hplace

/-! ### The evicted lines, one after the other -/

theorem evictLines_cons (s : State) (b : Booking) (bs : List Booking) (rank : Nat) :
    s.evictLines (b :: bs) rank =
      (s.evictLine b { time := s.shelfTime, rank := rank }).evictLines bs (rank + 1) := rfl

theorem evictLines_shelf (s : State) (bs : List Booking) (rank : Nat) : ShelfKept s (s.evictLines bs rank) := by
  induction bs generalizing s rank with
  | nil => exact .refl s
  | cons b bs ih => exact (works_evictLine s b _).touches.shelf.trans (ih _ _)

theorem evictLines_bookings (s : State) (bs : List Booking) (rank : Nat) :
    (s.evictLines bs rank).sched = { s.sched with waits := (s.evictLines bs rank).sched.waits } := by
  induction bs generalizing s rank with
  | nil => rfl
  | cons b bs ih =>
    rw [evictLines_cons, ih, evictLine_bookings]

theorem evictLines_line_of_not_mem (h : n ∉ bs.map Booking.line) (s : State) (rank : Nat) :
    (s.evictLines bs rank).line n = s.line n := by
  induction bs generalizing s rank with
  | nil => rfl
  | cons b bs ih =>
    rw [List.map_cons, List.mem_cons, not_or] at h
    rw [evictLines_cons, ih h.2, (works_evictLine s b _).touches.others.1 n h.1]

theorem evictLines_line (hnodup : (bs.map Booking.line).Nodup) (s : State) (rank : Nat) {i : Nat}
    (hi : bs[i]? = some b) : (s.evictLines bs rank).line b.line =
      evictedLine s b { time := s.shelfTime, rank := rank + i } := by
  induction bs generalizing s rank i with
  | nil => simp at hi
  | cons a bs ih =>
    obtain ⟨ha, hnodup⟩ := List.nodup_cons.1 hnodup
    rw [evictLines_cons]
    cases i with
    | zero =>
      obtain rfl : a = b := by simpa using hi
      rw [evictLines_line_of_not_mem ha, evictLine_line, Nat.add_zero]
    | succ i =>
      rw [List.getElem?_cons_succ] at hi
      have hne : b.line ≠ a.line := fun h => ha (h ▸ List.mem_map_of_mem (List.mem_of_getElem? hi))
      have htouch := (works_evictLine s a { time := s.shelfTime, rank := rank }).touches
      rw [ih hnodup _ _ hi, evictedLine, evictedLine, htouch.others.1 _ hne, htouch.shelf.shelfTime,
        Nat.add_right_comm, Nat.add_assoc]

/-- R102: the entries that evicted lines get at once, ranked from `k + 1` on. -/
def enteredAtOnce (s : State) (bs : List Booking) (k : Nat) : List WaitEntry :=
  ((bs.zipIdx k).filter fun b => !(s.line b.1.line).relayBusy).map fun b =>
    evictedEntry s.shelfTime (b.2 + 1) b.1

theorem enteredAtOnce_cons (s : State) (b : Booking) (bs : List Booking) (k : Nat) :
    enteredAtOnce s (b :: bs) k = (if (s.line b.line).relayBusy then [] else [evictedEntry s.shelfTime (k + 1) b]) ++
      enteredAtOnce s bs (k + 1) := by
  unfold enteredAtOnce
  rw [List.zipIdx_cons]
  cases h : (s.line b.line).relayBusy <;> simp [h]

theorem enteredAtOnce_congr {t : State} (hline : ∀ b ∈ bs, t.line b.line = s.line b.line)
    (htime : t.shelfTime = s.shelfTime) (k : Nat) : enteredAtOnce t bs k = enteredAtOnce s bs k := by
  unfold enteredAtOnce
  rw [htime]
  exact congrArg _ (List.filter_congr fun b hb => by rw [hline b.1 (List.fst_mem_of_mem_zipIdx hb)])

theorem behind_of_mark {w : WaitEntry} {m : EvictionMark} (hm : w.mark = some m) (ht : m.time = mark.time)
    (hr : m.rank < mark.rank) : mark.behind w = true := by
  simp [EvictionMark.behind, hm, ht, hr]

theorem not_behind_of_time {w : WaitEntry} (h : ∀ m ∈ w.mark, m.time ≠ mark.time) : mark.behind w = false := by
  unfold EvictionMark.behind
  split
  · next m hm => simp [h m hm]
  · rfl

/-- R102: the evicted lines stand at the head, behind those of their batch that stand there already. -/
theorem evictLines_waits (hnodup : (bs.map Booking.line).Nodup) (k : Nat) {front rest : List WaitEntry}
    (hwaits : s.sched.waits = front ++ rest)
    (hfront : ∀ w ∈ front, ∃ m, w.mark = some m ∧ m.time = s.shelfTime ∧ m.rank < k + 1)
    (hrest : ∀ w ∈ rest, ∀ m ∈ w.mark, m.time ≠ s.shelfTime) :
    (s.evictLines bs (k + 1)).sched.waits = front ++ enteredAtOnce s bs k ++ rest := by
  induction bs generalizing s k front with
  | nil => simpa [State.evictLines, enteredAtOnce] using hwaits
  | cons b bs ih =>
    obtain ⟨hb, hnodup⟩ := List.nodup_cons.1 hnodup
    have htouch := (works_evictLine s b { time := s.shelfTime, rank := k + 1 }).touches
    have htime := htouch.shelf.shelfTime
    have hsame : enteredAtOnce (s.evictLine b { time := s.shelfTime, rank := k + 1 }) bs (k + 1) =
        enteredAtOnce s bs (k + 1) :=
      enteredAtOnce_congr (fun x hx => htouch.others.1 _ fun h => hb (h ▸ List.mem_map_of_mem hx)) htime _
    rw [evictLines_cons, enteredAtOnce_cons]
    rw [← htime] at hrest
    have hmarked {w : WaitEntry} (hw : w ∈ front) : ∃ m, w.mark = some m ∧
        m.time = (s.evictLine b { time := s.shelfTime, rank := k + 1 }).shelfTime ∧ m.rank < k + 1 + 1 := by
      obtain ⟨m, hm, ht, hr⟩ := hfront w hw
      exact ⟨m, hm, ht.trans htime.symm, by omega⟩
    cases hbusy : (s.line b.line).relayBusy with
    | true =>
      have hwaits' := (evictLine_waits_of_busy hbusy { time := s.shelfTime, rank := k + 1 }).trans hwaits
      rw [ih hnodup (k + 1) hwaits' (fun w hw => hmarked hw) hrest, hsame]
      rfl
    | false =>
      have hwaits' := evictLine_waits (mark := { time := s.shelfTime, rank := k + 1 }) hbusy hwaits
        (fun w hw => by
          obtain ⟨m, hm, ht, hr⟩ := hfront w hw
          exact behind_of_mark hm ht hr)
        fun w hw => not_behind_of_time fun m hm => (hrest w hw m hm).trans_eq htime
      rw [List.append_cons] at hwaits'
      rw [ih hnodup (k + 1) hwaits' (fun w hw => ?_) hrest, hsame]
      · simp [evictedEntry]
      · rcases List.mem_append.1 hw with hw | hw
        · exact hmarked hw
        · rw [List.mem_singleton] at hw
          exact ⟨_, by rw [hw]; rfl, htime.symm, Nat.lt_succ_self _⟩

/-! ### The reports of those that joined at once (R102) -/

theorem reportEvicted_cons (s : State) (m : LineNo) (ns : List LineNo) : s.reportEvicted (m :: ns) =
    (if s.stateOf m = .ringWait then s.reportQueued m .evicted else s).reportEvicted ns := rfl

theorem reportEvicted_sched (s : State) (ns : List LineNo) : (s.reportEvicted ns).sched = s.sched := by
  induction ns generalizing s with
  | nil => rfl
  | cons m ns ih =>
    rw [reportEvicted_cons, ih]
    split <;> rfl

theorem reportEvicted_line {ns : List LineNo} (hnodup : ns.Nodup) (s : State) (n : LineNo) :
    (s.reportEvicted ns).line n = if n ∈ ns ∧ s.stateOf n = .ringWait then
      reported s (s.line n) (.ringQueued .evicted (waitPosition s.sched.waits n)) else s.line n := by
  induction ns generalizing s with
  | nil => simp [State.reportEvicted]
  | cons m ns ih =>
    obtain ⟨hm, hnodup⟩ := List.nodup_cons.1 hnodup
    have htouch := (works_reportEvicted s m).touches
    have hsched : (if s.stateOf m = .ringWait then s.reportQueued m .evicted else s).sched = s.sched := by
      split <;> rfl
    rw [reportEvicted_cons, ih hnodup, hsched]
    by_cases hnm : n = m
    · subst hnm
      rw [if_neg fun h => hm h.1]
      by_cases hst : s.stateOf n = .ringWait
      · rw [if_pos hst, if_pos ⟨by simp, hst⟩, State.reportQueued, State.report_line_same]
        rfl
      · rw [if_neg hst, if_neg fun h => hst h.2]
    · rw [htouch.stateOf hnm, htouch.others.1 n hnm, reported, reported, htouch.shelf.control,
        htouch.shelf.shelfTime]
      simp only [List.mem_cons, hnm, false_or]

/-! ### The eviction, whole (R100 to R102) -/

theorem evicted_nodup (h : (s.sched.bookings.map Booking.line).Nodup) : (s.evicted.map Booking.line).Nodup := by
  rw [← kept_append_evicted, List.map_append] at h
  exact h.of_append_right

theorem kept_line_not_evicted (h : (s.sched.bookings.map Booking.line).Nodup) (hb : b ∈ s.kept) :
    b.line ∉ s.evicted.map Booking.line := by
  rw [← kept_append_evicted, List.map_append] at h
  exact fun hm => (List.nodup_append.1 h).2.2 _ (List.mem_map_of_mem hb) _ hm rfl

theorem evict_sched (s : State) : s.evict.sched =
    { s.struck.sched with waits := (s.struck.evictLines s.evicted 1).sched.waits } := by
  rw [evict_eq, reportEvicted_sched, evictLines_bookings]

theorem evict_line_of_not_mem (hnodup : (s.sched.bookings.map Booking.line).Nodup)
    (h : n ∉ s.evicted.map Booking.line) : s.evict.line n = s.line n := by
  rw [evict_eq, reportEvicted_line (evicted_nodup hnodup), if_neg fun hn => h hn.1, evictLines_line_of_not_mem h]
  rfl

theorem evict_line (hnodup : (s.sched.bookings.map Booking.line).Nodup) {i : Nat} (hi : s.evicted[i]? = some b) :
    s.evict.line b.line = if (s.line b.line).relayBusy then
        guardedLine (s.line b.line)
          (.ringWait (.evicted { time := s.shelfTime, rank := i + 1 }) (evictedParty b).1 (evictedParty b).2)
      else reported s (movedLine (s.line b.line) .ringWait)
        (.ringQueued .evicted (waitPosition s.evict.sched.waits b.line)) := by
  have hline := evictLines_line (evicted_nodup hnodup) s.struck 1 hi
  have hshelf := evictLines_shelf s.struck s.evicted 1
  have hwaits : s.evict.sched.waits = (s.struck.evictLines s.evicted 1).sched.waits := by rw [evict_sched]
  have hmem : b.line ∈ s.evicted.map Booking.line := List.mem_map_of_mem (List.mem_of_getElem? hi)
  have hstruck : s.struck.line b.line = s.line b.line := rfl
  rw [hwaits, evict_eq, reportEvicted_line (evicted_nodup hnodup), State.stateOf, hline, Nat.add_comm 1 i,
    evictedLine, hstruck]
  by_cases hbusy : (s.line b.line).relayBusy = true
  · rw [if_pos hbusy, if_pos hbusy]
    exact if_neg fun h => by simp [guardedLine] at h
  · rw [if_neg hbusy, if_neg hbusy, if_pos ⟨hmem, rfl⟩, reported, reported, hshelf.control, hshelf.shelfTime]
    rfl

/-- R101, R102: the eviction of a reload whose load gave `s` from `x`. -/
theorem evicted_of_evict {x y : State} (hnodup : (s.sched.bookings.map Booking.line).Nodup)
    (hline : ∀ n, s.line n = x.line n) (htime : s.shelfTime = x.shelfTime)
    (hjudged : s.sched.waits = x.sched.waits.map fun w =>
      { w with blocking := decide (s.control.params.priorityAge ≤ w.framesWaited) })
    (hy : y.sched.waits = s.evict.sched.waits) (hyline : ∀ n, y.line n = s.evict.line n)
    (hcontrol : y.control = s.control) (hytime : y.shelfTime = x.shelfTime) : Evicted s.evicted x y := by
  refine ⟨fun i b hi => ⟨fun hbusy => ?_, fun hbusy => ?_⟩, fun hmarks => ?_⟩
  · rw [hyline, evict_line hnodup hi, hline, if_pos (relayBusy_iff.2 hbusy), htime]
    rfl
  · rw [hyline, evict_line hnodup hi, hline, if_neg fun h => hbusy (relayBusy_iff.1 h), hy, reported, reported,
      hcontrol, hytime, htime]
  · have hrest : ∀ w ∈ s.struck.sched.waits, ∀ m ∈ w.mark, m.time ≠ s.struck.shelfTime := by
      intro w hw m hm
      have hw' : w ∈ s.sched.waits := hw
      rw [hjudged] at hw'
      obtain ⟨v, hv, rfl⟩ := List.mem_map.1 hw'
      exact (hmarks v hv m hm).trans_eq htime.symm
    have hwaits := evictLines_waits (s := s.struck) (evicted_nodup hnodup) 0 (front := [])
      (rest := s.struck.sched.waits) rfl (by simp) hrest
    have hentered : enteredAtOnce s.struck s.evicted 0 = enteredAtOnce x s.evicted 0 :=
      enteredAtOnce_congr (fun b _ => hline b.line) htime 0
    have hstruck : s.struck.sched.waits = s.sched.waits := rfl
    rw [hy, evict_sched, hcontrol]
    dsimp only
    rw [hwaits, hentered, hstruck, hjudged]
    rfl

end
end Sys2Proof.Machine
end

section
/-! PROOFS. O48: the reload of a frame boundary is `Reloaded`, and the boundary, whole. -/

namespace Sys2Proof.Machine

open Sys2Proof.Safety

section

variable {s x : State} {c : FrameSlot} {e : Nat} {early late : List BusWrite}

/-! ### The load, the eviction and the changes (R20, R22, R100 to R102, R119) -/

/-- R22: the reload of a frame boundary, where the generation differs. -/
def State.reload (x : State) (early late : List BusWrite) : State :=
  (x.loadMeeting early late).evict.reloadChanges

/-- R119: a remaining booking of a reload. -/
theorem reloadChange_eq_rechanged {m : State} {b : Booking} (hline : m.line b.line = x.line b.line) :
    (if b.mask ≠ m.maskOf b.line b.party ∧ b.change = none then { b with change := some b.reloadChange } else b) =
      rechanged x m.control.params b := by
  have hmask : m.maskOf b.line b.party =
      m.control.params.masks[(x.line b.line).sup.parties[b.party].code] := by
    simp only [State.maskOf, hline]
  rw [hmask]
  unfold rechanged
  exact if_congr (and_comm.trans (and_congr_right fun _ => ne_comm)) rfl rfl

theorem confined_reload (x : State) (early late : List BusWrite) :
    Confined (x.loadMeeting early late) (x.reload early late) :=
  (confined_evict _).trans (confined_reloadChanges _)

theorem reload_bookings (hnodup : (x.sched.bookings.map Booking.line).Nodup) :
    (x.reload early late).sched.bookings =
      (x.loadMeeting early late).kept.map (rechanged x (x.writes early).loadedParams) := by
  have hnodup' : ((x.loadMeeting early late).sched.bookings.map Booking.line).Nodup := by
    rwa [loadMeeting_bookings]
  have hparams : (x.loadMeeting early late).evict.control.params = (x.writes early).loadedParams := by
    rw [(confined_evict _).shelf.control, State.loadMeeting_params]
  have hkept : (x.loadMeeting early late).evict.sched.bookings = (x.loadMeeting early late).kept := by
    rw [evict_sched]
    rfl
  rw [← hparams, ← hkept]
  refine List.map_congr_left fun b hb => reloadChange_eq_rechanged ?_
  rw [hkept] at hb
  rw [evict_line_of_not_mem hnodup' (kept_line_not_evicted hnodup' hb), loadMeeting_line]

theorem reload_sched (x : State) (early late : List BusWrite) : (x.reload early late).sched = { x.sched with
    bookings := (x.reload early late).sched.bookings
    waits := (x.loadMeeting early late).evict.sched.waits
    loads := (x.loadMeeting early late).struck.sched.loads } := by
  have hslot : (x.loadMeeting early late).sched.slot = x.sched.slot := by rw [loadMeeting_update]
  have hnext : (x.loadMeeting early late).sched.nextBoundary = x.sched.nextBoundary := by rw [loadMeeting_update]
  have hreload : (x.reload early late).sched = { (x.loadMeeting early late).evict.sched with
    bookings := (x.reload early late).sched.bookings } := rfl
  have hstruck : (x.loadMeeting early late).struck.sched = { (x.loadMeeting early late).sched with
    bookings := (x.loadMeeting early late).kept
    loads := (x.loadMeeting early late).struck.sched.loads } := rfl
  refine hreload.trans ?_
  rw [evict_sched, hstruck]
  dsimp only
  rw [hslot, hnext]

theorem loadMeeting_frame (x : State) (early late : List BusWrite) : x.loadMeeting early late = { x with
    control := (x.loadMeeting early late).control, port := (x.loadMeeting early late).port
    sched := (x.loadMeeting early late).sched } := by
  rw [loadMeeting_update]

/-- R20, R22: a reload changes the port, Shelf Control, the ring lists and lines in them, and sends no word. -/
theorem reload_frame (htoneless : Toneless x) : x.reload early late = { x with
    port := (x.reload early late).port, control := (x.reload early late).control
    sched := (x.reload early late).sched, lines := (x.reload early late).lines } := by
  have hconfined := confined_reload x early late
  have ⟨hsent, _⟩ := hconfined.silent ((loaded_loadMeeting x early late).toneless htoneless)
  have hkept := eq_of_shelfKept hconfined.shelf hsent
  have hframe := loadMeeting_frame x early late
  rw [hconfined.shelf.port, hconfined.shelf.control]
  exact hkept.trans (congrArg (fun l : State =>
    { l with sched := (x.reload early late).sched, lines := (x.reload early late).lines }) hframe)

/-- R20, R22, R100 to R102, R119: the reload of a frame boundary. -/
theorem reloaded_reload (hloads : LoadsMatch x) (hnodup : (x.sched.bookings.map Booking.line).Nodup)
    (htoneless : Toneless x) : Reloaded x early late (x.reload early late) := by
  have hconfined := confined_reload x early late
  have hload := loadMeeting_update x early late
  have hloads' : LoadsMatch (x.loadMeeting early late) := by simpa [LoadsMatch] using hloads
  have hnodup' : ((x.loadMeeting early late).sched.bookings.map Booking.line).Nodup := by
    rwa [loadMeeting_bookings]
  have hparams : (x.loadMeeting early late).control.params = (x.writes early).loadedParams :=
    State.loadMeeting_params x early late
  have hbookings := reload_bookings (early := early) (late := late) hnodup
  have hsched := reload_sched x early late
  refine ⟨?_, ?_, ⟨(x.loadMeeting early late).kept, (x.loadMeeting early late).evicted, ?_, ?_, fun k => ?_,
    fun b hb => ?_, ?_, fun n hn => ?_⟩, reload_frame htoneless⟩
  · rw [hconfined.shelf.control, readByte_generationField, hload]
  · rw [hconfined.shelf.port, hload]
  · rw [kept_append_evicted, loadMeeting_bookings]
  · rw [hsched, hbookings]
  · have hk := struck_loads hloads' k
    rw [hsched]
    exact ⟨hk, fun _ => hk.trans_le ((kept_within hloads' k).trans_eq (by rw [hparams]))⟩
  · obtain ⟨k, hk⟩ := evicted_over hloads' hb
    exact ⟨k, hparams ▸ hk⟩
  · refine evicted_of_evict hnodup' (loadMeeting_line x early late) (by rw [hload]) (by rw [hparams, hload]; rfl)
      (by rw [hsched]) (fun _ => rfl) hconfined.shelf.control (hconfined.shelf.shelfTime.trans (by rw [hload]))
  · have hline : (x.reload early late).line n = (x.loadMeeting early late).evict.line n := rfl
    rw [hline, evict_line_of_not_mem hnodup' hn, loadMeeting_line]

/-! ### The frame boundary, whole (R22, R109) -/

/-- The lists of a reloaded state are those that its lines' states tell, while shelf and source are RUNNING. -/
theorem reload_lists (hloads : LoadsMatch x) (hlists : ListsMatchStates x) (hrun : x.control.shelf = .running)
    (hsource : x.source.state = .running) : ListsMatchStates (x.reload early late) := by
  have hloads' : LoadsMatch (x.loadMeeting early late) := by simpa [LoadsMatch] using hloads
  have hlists' : ListsMatchStates (x.loadMeeting early late) :=
    listsMatchStates_congr (by rw [loadMeeting_bookings]) (loaded_loadMeeting x early late).waits
      (fun n => congrArg (fun l : Line => l.sup.state) (loadMeeting_line x early late n)) hlists
  have hrunning : RingingOnlyWhileRunning (x.loadMeeting early late) :=
    ⟨fun h => absurd hrun (by rwa [loadMeeting_shelf] at h),
      fun h => absurd hsource (by rwa [loadMeeting_source] at h)⟩
  obtain ⟨-, -, hmatch, -⟩ := ringLists_reloadChanges (ringLists_evict hloads' hlists' hrunning)
  exact hmatch

/-- The state of a frame boundary at which no frame ends, after its requests and the counting of the waits. -/
def State.toReload (s : State) (e : Nat) : State :=
  counted (requested (clocked s 0 e) 0) (s.sched.waits.map WaitEntry.line)

theorem toReload_toneless (hlists : ListsMatchStates s) (htones : TonesFit s) (e : Nat) :
    Toneless (s.toReload e) := by
  have hrequested := (confined_requested (clocked s 0 e) 0).toneless (toneless_of_tonesFit hlists htones)
  have hlists' := requested_lists (s := clocked s 0 e) hlists 0
  rw [State.toReload, ← countWaits_eq_counted (waits_nodup hlists') hrequested]
  exact (confined_countWaits _ _).toneless hrequested

theorem toReload_lists (hlists : ListsMatchStates s) (e : Nat) : ListsMatchStates (s.toReload e) :=
  counted_lists (requested_lists (s := clocked s 0 e) hlists 0) _

theorem toReload_shelf (s : State) (e : Nat) : ShelfKept (clocked s 0 e) (s.toReload e) :=
  (requested_shelf _ 0).trans (counted_shelf _ _)

/-- R92: first bursts take no more of the slots. -/
theorem toReload_loads (hloads : LoadsMatch s) (e : Nat) : LoadsMatch (s.toReload e) := fun k => by
  rw [State.toReload, counted_sched, requested_sched]
  refine (hloads k).trans (congrArg List.sum ?_)
  exact (List.map_map (f := fun b : Booking => { b with firstBurst := b.firstBurst || decide (b.rotation = 0) })
    (g := fun b => b.contribution k) (l := s.sched.bookings)).symm

/-- R22, R109: a frame boundary where no frame ends and the generation differs is the reload, and then the walk. -/
theorem exec_slotBoundary_reload (h : Boundary s 0 e) (hno : NoFrameEnds s 0) (hlists : ListsMatchStates s)
    (htones : TonesFit s) (hgeneration : s.readByte 0x100 ≠ s.control.generationTaken)
    (early late : List BusWrite) : exec (.slotBoundary early late) s = .next
      (((s.toReload e).reload early late).walkTo 0) := by
  have hrequested := (confined_requested (clocked s 0 e) 0).toneless (toneless_of_tonesFit hlists htones)
  have hlists' := requested_lists (s := clocked s 0 e) hlists 0
  have hcount := countWaits_eq_counted (waits_nodup hlists') hrequested (s.sched.waits.map WaitEntry.line)
  have hport : (s.toReload e).port = s.port := (toReload_shelf s e).port
  have hcontrol : (s.toReload e).control = s.control := (toReload_shelf s e).control
  have hfield : (s.toReload e).generationField = s.generationField := by
    unfold State.generationField State.hostByte
    rw [hport]
  have hdiffers : ¬(s.toReload e).generationField = (s.toReload e).control.generationTaken := by
    rwa [hfield, hcontrol, ← readByte_generationField]
  have hreload : (s.toReload e).reloadCheck early late = (s.toReload e).reload early late := if_neg hdiffers
  rw [exec_slotBoundary_of_noFrameEnds h hno, boundaryTail_eq, if_pos rfl, hcount, ← hreload]
  rfl

end

/-- Settles O48: the frame of a boundary is `boundaryFrame_boundary`, the plain boundary is its requests,
`toWalk_eq`, and the reload is `reloaded_reload`. -/
theorem slotBoundaryRequestsRelays : Obligations.SlotBoundaryRequestsRelays := by
  refine ⟨fun i n early late s hi => exec_boundaryRow hi s, ?_, ?_⟩
  · intro s e early late _ c h hc hno hnodup hnothing
    have hexec := exec_slotBoundary_of_ne_zero h hno hc early late
    have hnothing' : (s.toWalk c e early late).source.state ≠ .running ∨
        (s.toWalk c e early late).sched.waits = [] := by
      rwa [toWalk_source, toWalk_sched]
    refine ⟨_, hexec.trans (congrArg _ (walkTo_of_nothing hnothing' c)), toWalk_sched,
      fun b hb => toWalk_line_of_booking hnodup hb, fun n hn => toWalk_line fun hm => ?_, toWalk_eq⟩
    obtain ⟨b, hb, hline⟩ := List.mem_map.1 hm
    exact hn b hb hline
  · intro s e early late h hno hlists hloads htones hgeneration
    have hlists' := toReload_lists hlists e
    have htoneless := toReload_toneless hlists htones e
    have hloads' := toReload_loads hloads e
    have hload := loaded_loadMeeting (s.toReload e) early late
    have hconfined := confined_reload (s.toReload e) early late
    refine ⟨(s.toReload e).reload early late, _, exec_slotBoundary_reload h hno hlists htones hgeneration early late,
      reloaded_reload hloads' (bookings_nodup hlists') htoneless,
      walkedTo_walkTo (fun hsource => reload_lists hloads' hlists' ?_ ?_)
        (hconfined.toneless (hload.toneless htoneless))⟩
    · rw [(toReload_shelf s e).control]
      exact h.1
    · obtain ⟨-, -, -, -, -, -, hkept, -⟩ := hconfined.shelf
      rwa [hkept, loadMeeting_source] at hsource

end Sys2Proof.Machine
end

section
/-! PROOFS. O24 to O26: the RING orders that pass R105's checks, and STOP. -/

namespace Sys2Proof.Machine

open Sys2Proof.Safety

section

variable {s : State} {n : LineNo} {p : Fin 4} {seq party maxFrames : Byte} {o : OrderOutcome}

/-! ### A RING that passes the checks (R95, R105) -/

theorem partyCheck_of_passes (h : RingPasses s n party maxFrames p o) : s.partyCheck n p = none := by
  obtain ⟨-, -, hload, hcapacity, -⟩ := h
  exact (if_neg hload).trans (if_neg (Nat.not_lt.2 hcapacity))

/-- R105: a RING that passes its checks is answered by the line's state. -/
theorem orderRing_of_passes (h : RingPasses s n party maxFrames p o) :
    (s.stateOf n = .idle → s.orderRing n party maxFrames = s.ringIdle n p (min 60 maxFrames.toNat) o) ∧
    (s.stateOf n = .ringing →
      s.orderRing n party maxFrames = ⟨o, s.ringAgain n p (min 60 maxFrames.toNat), []⟩) ∧
    (s.stateOf n = .ringWait →
      s.orderRing n party maxFrames = ⟨o, s.ringWaiting n p (min 60 maxFrames.toNat), []⟩) := by
  have hcheck := partyCheck_of_passes h
  obtain ⟨hparty, hcard, -, -, rfl⟩ := h
  rw [orderRing_of_party hparty, State.ringParty, if_neg (by simp [hcard])]
  refine ⟨fun hst => ?_, fun hst => ?_, fun hst => ?_⟩ <;>
    simp only [hst, hcheck, ne_eq, not_true_eq_false, and_false, false_and, if_false]

/-! ### A RING in IDLE (R97, R106) -/

/-- R106: with the source RUNNING the party is booked at the first rotation from c + 1 on at which it fits. -/
theorem ringIdle_of_firstFit {d : Fin 12} (hsource : s.source.state = .running)
    (hfirst : FirstFit s n p (s.sched.slot + 1) d) (frames : Nat) :
    s.ringIdle n p frames o = ⟨o, s.book n p (s.sched.slot + 1 + d) frames,
      [.ringBooked (d.val + 1) (s.sched.slot + 1 + d)]⟩ := by
  obtain ⟨hfit, hbefore⟩ := hfirst
  have hsearch : s.search n p (s.sched.slot + 1) = some (s.sched.slot + 1 + d) :=
    searchFrom_eq_some (fitsAt_iff.1 hfit) fun j hj => by
      simpa only [fitsAt_iff, Bool.not_eq_true] using hbefore j hj
  have hdetail : s.sched.slot + 1 + d - s.sched.slot - 1 = d := by rw [sub_sub, add_sub_cancel_left]
  rw [State.ringIdle, if_pos hsource, hsearch]
  dsimp only
  rw [hdetail]

/-- R106: without a fit, or without a RUNNING source, the party joins the wait list at the tail. -/
theorem ringIdle_of_noFit (h : s.source.state ≠ .running ∨ ∀ j : Fin 12, ¬FitsAt s n p (s.sched.slot + 1 + j))
    (frames : Nat) : s.ringIdle n p frames o = ⟨o, s.waitAtTail n p frames,
      [.ringQueued (if s.source.state = .running then .noRoom else .sourceDown)
        (waitPosition (s.waitAtTail n p frames).sched.waits n)]⟩ := by
  unfold State.ringIdle
  by_cases hsource : s.source.state = .running
  · rw [if_pos hsource, if_pos hsource]
    cases hsearch : s.search n p (s.sched.slot + 1) with
    | none => rfl
    | some r =>
      obtain ⟨d, rfl, hfit, -⟩ := firstFit_of_search hsearch
      exact absurd hfit (h.resolve_left (not_not_intro hsource) d)
  · rw [if_neg hsource, if_neg hsource]

theorem book_line (s : State) (n : LineNo) (p : Fin 4) (r : FrameSlot) (frames : Nat) :
    (s.book n p r frames).line n = movedLine (s.line n) .ringing := by
  rw [State.book, State.updLine_line_same]
  rfl

theorem waitAtTail_line (s : State) (n : LineNo) (p : Fin 4) (frames : Nat) :
    (s.waitAtTail n p frames).line n = movedLine (s.line n) .ringWait := by
  rw [State.waitAtTail, State.updLine_line_same]
  rfl

theorem waitAtTail_sched (s : State) (n : LineNo) (p : Fin 4) (frames : Nat) :
    (s.waitAtTail n p frames).sched =
      { s.sched with waits := s.sched.waits ++ [newWait n p frames none] } := rfl

/-- R13: an order that its owner answers with one report of its own. -/
theorem exec_reported {i : Instr} {kind : Byte} {a : Answer} {r : Report}
    (hexec : exec i s = .next (s.order n kind seq a)) (ht : Takes s n seq) (hw : Works n s a.state)
    (hf : a.follow = [r]) : ∃ t, exec i s = .next t ∧
      t.line n = reported s (answered s (a.state.line n) a.outcome kind seq) r ∧ t.sched = a.state.sched := by
  obtain ⟨hline, hsched⟩ := taken_line hw kind seq
  rw [hf] at hline
  exact ⟨_, hexec.trans (congrArg _ (order_of_takes ht kind a)), hline, hsched⟩

end

/-- Settles O24: the RING is `ringIdle_of_firstFit` or `ringIdle_of_noFit`, with R13's record. -/
theorem ringFromIdle : Obligations.RingFromIdle := by
  intro n seq party maxFrames p o s ht hst hpass
  obtain ⟨hidle, -⟩ := orderRing_of_passes hpass
  have hring := hidle hst
  have hworks := works_orderRing s n party maxFrames
  refine ⟨fun hsource d hfit hbefore => ?_, fun hno => ?_⟩
  · have hanswer := hring.trans (ringIdle_of_firstFit hsource ⟨hfit, hbefore⟩ _)
    obtain ⟨t, hexec, hline, hsched⟩ := exec_reported (i := .ring n seq party maxFrames) rfl ht hworks
      (congrArg Answer.follow hanswer)
    rw [hanswer] at hline hsched
    rw [book_line] at hline
    refine ⟨t, hexec, hline, by rw [hsched]; rfl, fun k => ?_, by rw [hsched]; rfl⟩
    rw [hsched]
    exact addLoad_get s.sched.loads _ k
  · have hanswer := hring.trans (ringIdle_of_noFit hno _)
    obtain ⟨t, hexec, hline, hsched⟩ := exec_reported (i := .ring n seq party maxFrames) rfl ht hworks
      (congrArg Answer.follow hanswer)
    rw [hanswer] at hline hsched
    rw [waitAtTail_line, ← hsched] at hline
    refine ⟨t, hexec, hline, hsched, fun hnone => ?_⟩
    rw [hsched]
    exact waitPosition_append (e := newWait n p _ none) hnone

/-! ### A RING in RINGING and in RING WAIT (R107) -/

/-- R13, R107: a RING whose effect is on the ring lists alone. -/
theorem exec_ring_of_sched {s : State} {n : LineNo} {seq party maxFrames : Byte} {o : OrderOutcome}
    {sched : Scheduler} (ht : Takes s n seq)
    (h : s.orderRing n party maxFrames = ⟨o, { s with sched := sched }, []⟩) :
    ∃ t, exec (.ring n seq party maxFrames) s = .next t ∧ t.line n = answered s (s.line n) o 3 seq ∧
      t.sent = s.sent ∧ t.sched = sched := by
  obtain ⟨hline, hsched, hsent⟩ := taken_of_unchanged n 3 seq
    (s := { s with sched := sched }) (a := ⟨o, { s with sched := sched }, []⟩) rfl rfl
  exact ⟨_, congrArg Host.Outcome.next ((order_of_takes ht 3 _).trans (congrArg (Answer.taken · n 3 seq) h)),
    hline, hsent, hsched⟩

/-- Settles O25: in both states the effect is on the ring lists alone, `exec_ring_of_sched`. -/
theorem ringAgainChangesParty : Obligations.RingAgainChangesParty := by
  intro n seq party maxFrames p o s ht hpass
  obtain ⟨-, hringing, hwaiting⟩ := orderRing_of_passes hpass
  exact ⟨fun hst => exec_ring_of_sched ht (hringing hst), fun hst => exec_ring_of_sched ht (hwaiting hst)⟩

/-! ### STOP (R108) -/

section

variable {s : State} {n : LineNo} {seq : Byte}

theorem dropBookings_line_ne (s : State) (n : LineNo) :
    (s.dropBookings (· = n)).sched.bookings = s.sched.bookings.filter fun b => decide (b.line ≠ n) := by
  simp

theorem dropWaits_line_ne (s : State) (n : LineNo) :
    (s.dropWaits (· = n)).sched = { s.sched with
      waits := s.sched.waits.filter fun e => decide (e.line ≠ n) } := by
  simp [State.dropWaits]

/-- R101, R108, R110: where a line goes that stops ringing with this target. -/
theorem guardWithRelease_line (s : State) (n : LineNo) (target : ExitTarget) :
    (s.guardWithRelease n target).line n = guardedLine (s.line n) target := by
  rw [State.guardWithRelease, State.updLine_line_same]
  rfl

theorem ringToIdle_line (s : State) (n : LineNo) : (s.ringToIdle n).line n =
    if Busy (s.line n) then guardedLine (s.line n) .idle else movedLine (s.line n) .idle := by
  unfold State.ringToIdle
  by_cases hbusy : Busy (s.line n)
  · rw [if_pos (relayBusy_iff.2 hbusy), if_pos hbusy, guardWithRelease_line]
  · rw [if_neg fun h => hbusy (relayBusy_iff.1 h), if_neg hbusy, State.updLine_line_same]
    rfl

theorem ringToIdle_sched (s : State) (n : LineNo) : (s.ringToIdle n).sched = s.sched := by
  unfold State.ringToIdle
  split <;> rfl

/-- R108: STOP in a state that acts on it. -/
theorem exec_stop_of_accepted {x : State} (ht : Takes s n seq) (h : s.orderStop n = x.accept) :
    ∃ t, exec (.stop n seq) s = .next t ∧ t.line n = answered s (x.line n) .accepted 4 seq ∧
      t.sched = x.sched := by
  have hstop := exec_accepted (i := .stop n seq) rfl ht (works_orderStop s n) (by rw [h]; rfl)
  rwa [h] at hstop

end

/-- Settles O26: STOP in the ringing states is `exec_stop_of_accepted`, and in the others it changes nothing. -/
theorem stopEndsRinging : Obligations.StopEndsRinging := by
  intro n seq s ht
  refine ⟨fun hst => ?_, fun hst => ?_, fun hst => ?_, fun hringing hwait hguard => ?_⟩
  · obtain ⟨t, hexec, hline, hsched⟩ := exec_stop_of_accepted (x := (s.dropBookings (· = n)).ringToIdle n) ht
      (by simp only [State.orderStop, hst])
    rw [ringToIdle_line] at hline
    rw [ringToIdle_sched] at hsched
    refine ⟨t, hexec, fun hbusy => hline.trans ?_, fun hbusy => hline.trans ?_, ?_, by rw [hsched]; rfl,
      fun hloads k => ?_⟩
    · exact congrArg (answered s · .accepted 4 seq) (if_pos hbusy)
    · exact congrArg (answered s · .accepted 4 seq) (if_neg hbusy)
    · rw [hsched, dropBookings_line_ne]
    · rw [hsched]
      exact dropBookings_loads (s := s) _ k (hloads k)
  · obtain ⟨t, hexec, hline, hsched⟩ := exec_stop_of_accepted
      (x := (s.dropWaits (· = n)).updLine n fun l => l.enterFresh .idle .none) ht
      (by simp only [State.orderStop, hst])
    rw [State.updLine_line_same] at hline
    exact ⟨t, hexec, hline, hsched.trans (dropWaits_line_ne s n)⟩
  · obtain ⟨t, hexec, hline, hsched⟩ := exec_stop_of_accepted
      (x := s.updLine n fun l => { l with sup.guardRecord := l.sup.guardRecord.map GuardRecord.stopped }) ht
      (by simp only [State.orderStop, hst])
    rw [State.updLine_line_same] at hline
    exact ⟨t, hexec, hsched, hline⟩
  · refine onlyAnswered_of_unchanged rfl ht ?_
    unfold State.orderStop
    split
    case h_1 h => exact absurd h hringing
    case h_2 h => exact absurd h hwait
    case h_3 h => exact absurd h hguard
    case h_4 => rfl

end Sys2Proof.Machine
end

section
/-! PROOFS. O41: a make sample that answers, in RINGING and in RING WAIT. -/

namespace Sys2Proof.Machine

open Sys2Proof.Safety

section

variable {s t x : State} {n : LineNo} {a : Option Byte} {m0 : BitVec 32} {len : Option Nat}
  {how : AnswerKind} {frames : Nat}

/-! ### Outside IDLE, once stage 3 is done (R40, R41, R44) -/

/-- R40: outside IDLE only the leakage check is still to come after stage 3, in the modes that make it. -/
theorem arrival_of_afterStage3 (hs : Sampled s n) (hidle : s.stateOf n ≠ .idle)
    (hchecks : (s.delivered n).checksLeakage n (sampleOf a) = true)
    (h3 : (s.delivered n).afterStage3 n (sampleOf a) = t)
    (hprofile : (t.line n).sup.profile = (s.line n).sup.profile) :
    (s.arrival n a).line n = leakChecked s (s.profileOf n).ll (t.line n) ∧ (s.arrival n a).sched = t.sched := by
  have htracked : trackedBaseline (s.delivered n) n (sampleOf a) = (t.line n).cls.baseline := by
    unfold trackedBaseline
    dsimp only
    rw [h3]
    exact if_neg fun ⟨hm, _⟩ => hidle (Line.idle_of_mode ((delivered_modeOf s n).symm.trans hm))
  have hline : ((s.delivered n).afterStage4 n (sampleOf a)).line n = t.line n := by
    rw [afterStage4_line, h3, htracked]
    rfl
  obtain ⟨hshelf, -, -, -⟩ := (works_delivered s n).touches.trans
    (touches_afterStage4 (s.delivered n) n (sampleOf a))
  have hprof : ((s.delivered n).afterStage4 n (sampleOf a)).profileOf n = s.profileOf n := by
    simp only [State.profileOf, hline, hprofile, hshelf.control]
  rw [arrival_of_sampled hs, State.stages, if_pos hchecks, checkLeakage_line, checkLeakage_sched, hprof, hline,
    leakChecked_congr hshelf.control hshelf.shelfTime, afterStage4_sched, h3]
  exact ⟨rfl, rfl⟩

/-! ### The answer (R115, R117, R79; logs 21 and 30) -/

/-- Neither ringing state acts on the break that a close finishes, whatever its class (log 21). -/
theorem stands_of_ringing (h : MakeAt s n (sampleOf a) m0 len)
    (hst : s.stateOf n = .ringing ∨ s.stateOf n = .ringWait) :
    Stands s n ((s.delivered n).afterClear n (sampleOf a)) (closedLine s n m0 len) := by
  refine stands_of_ignored h ?_ ?_ <;> rcases hst with hst | hst <;> simp [BreakIgnored, Calling, hst]

theorem answerNow_line (x : State) (n : LineNo) (how : AnswerKind) (frames : Nat) :
    (x.answerNow n how frames).line n = answeredLine x (x.line n) how frames := by
  rw [State.answerNow, State.report_line_same, State.updLine_line_same]
  rfl

theorem reported_congr (hcontrol : x.control = s.control) (htime : x.shelfTime = s.shelfTime) (l : Line)
    (r : Report) : reported x l r = reported s l r := by
  rw [reported, reported, hcontrol, htime]

theorem answeredLine_congr (hcontrol : x.control = s.control) (htime : x.shelfTime = s.shelfTime) (l : Line) :
    answeredLine x l how frames = answeredLine s l how frames := reported_congr hcontrol htime _ _

/-- R115, R117: a sample that ends in an answer, once the line has left its list as `x`. -/
theorem arrival_of_answered (h : MakeAt s n (sampleOf a) m0 len)
    (hst : s.stateOf n = .ringing ∨ s.stateOf n = .ringWait)
    (hx : Works n ((s.delivered n).afterClear n (sampleOf a)) x)
    (hline : x.line n = ((s.delivered n).afterClear n (sampleOf a)).line n)
    (hitems : (s.delivered n).afterElapsed n (sampleOf a) = x.answerNow n how frames) :
    (s.arrival n a).line n =
        leakChecked s (s.profileOf n).ll (answeredLine s (closedLine s n m0 len) how frames) ∧
      (s.arrival n a).sched = x.sched := by
  have hstands := stands_of_ringing h hst
  have hanswered : (x.answerNow n how frames).line n = answeredLine s (closedLine s n m0 len) how frames := by
    rw [answerNow_line, hline, hstands.line, answeredLine_congr (hx.touches.shelf.control.trans hstands.control)
      (hx.touches.shelf.shelfTime.trans hstands.shelfTime)]
  obtain ⟨hs, -, hh, -⟩ := h
  have hdue : (x.answerNow n how frames).deadlineDue n = none := deadlineDue_of_none (by rw [hanswered]; rfl)
  have hidle : s.stateOf n ≠ .idle := by rcases hst with hst | hst <;> simp [hst]
  obtain ⟨hsched, harrival, hbase⟩ := arrival_of_items hs hh hitems hdue (by rw [hanswered]; rfl)
  rw [hbase hidle, hanswered] at harrival
  exact ⟨harrival, hsched⟩

/-- R115: in RINGING, with a booking, the make answers after the first burst, and before it once it reaches SQ. -/
theorem afterElapsed_of_ringing (h : MakeAt s n (sampleOf a) m0 len) (hst : s.stateOf n = .ringing) {b : Booking}
    (hb : s.bookingOf n = some b) : (s.delivered n).afterElapsed n (sampleOf a) =
      let t := (s.delivered n).afterClear n (sampleOf a)
      if b.firstBurst then (t.dropBookings (· = n)).answerNow n .inSilence b.framesRung
      else if (s.profileOf n).sq ≤ makeElapsed s n m0 then
        (t.dropBookings (· = n)).answerNow n .beforeRing b.framesRung
      else t := by
  have hstands := stands_of_ringing h (.inl hst)
  have hbooking : ((s.delivered n).afterClear n (sampleOf a)).bookingOf n = some b := by
    rw [State.bookingOf, hstands.sched]
    exact hb
  rw [afterElapsed_of_makeAt h]
  simp only [State.itemMake, hstands.stateOf.trans hst, State.makeRinging, hbooking, hstands.profileOf]

/-- R117: in RING WAIT the make answers once it reaches SQ. -/
theorem afterElapsed_of_waiting (h : MakeAt s n (sampleOf a) m0 len) (hst : s.stateOf n = .ringWait) :
    (s.delivered n).afterElapsed n (sampleOf a) =
      let t := (s.delivered n).afterClear n (sampleOf a)
      if (s.profileOf n).sq ≤ makeElapsed s n m0 then (t.dropWaits (· = n)).answerNow n .beforeRing 0
      else t := by
  have hstands := stands_of_ringing h (.inr hst)
  rw [afterElapsed_of_makeAt h]
  simp only [State.itemMake, hstands.stateOf.trans hst, State.makeWaiting, hstands.profileOf]

/-- A state with the ring lists of `s` but for line n's booking (R94). -/
theorem unbooked_of_sched (h : t.sched = (s.dropBookings (· = n)).sched) :
    t.sched.bookings = s.sched.bookings.filter (fun b => decide (b.line ≠ n)) ∧
      t.sched.waits = s.sched.waits ∧ (LoadsMatch s → LoadsMatch t) := by
  rw [LoadsMatch, LoadsMatch, h, dropBookings_line_ne]
  exact ⟨rfl, rfl, fun hloads k => by
    simpa using dropBookings_loads (s := s) (fun m => decide (m = n)) k (hloads k)⟩

/-- R115: the booking of an answered line leaves with its load. -/
theorem arrival_of_ringing_answered (h : MakeAt s n (sampleOf a) m0 len) (hst : s.stateOf n = .ringing)
    (hitems : (s.delivered n).afterElapsed n (sampleOf a) =
      (((s.delivered n).afterClear n (sampleOf a)).dropBookings (· = n)).answerNow n how frames) :
    (s.arrival n a).line n =
        leakChecked s (s.profileOf n).ll (answeredLine s (closedLine s n m0 len) how frames) ∧
      (s.arrival n a).sched.bookings = s.sched.bookings.filter (fun b => decide (b.line ≠ n)) ∧
      (s.arrival n a).sched.waits = s.sched.waits ∧ (LoadsMatch s → LoadsMatch (s.arrival n a)) := by
  obtain ⟨hline, hsched⟩ := arrival_of_answered h (.inl hst) (works_dropBookings _ n) rfl hitems
  refine ⟨hline, unbooked_of_sched (hsched.trans ?_)⟩
  simp only [State.dropBookings, (stands_of_ringing h (.inl hst)).sched]

/-- R115, R117: a make that is no answer leaves the line as its close did. -/
theorem arrival_of_unanswered (h : MakeAt s n (sampleOf a) m0 len)
    (hst : s.stateOf n = .ringing ∨ s.stateOf n = .ringWait)
    (hitems : (s.delivered n).afterElapsed n (sampleOf a) = (s.delivered n).afterClear n (sampleOf a))
    (hdue : s.deadlineDue n = none) : Leaves (.sampleArrival n a) s n (closedLine s n m0 len) := by
  have hstands := stands_of_ringing h hst
  rw [← hitems] at hstands
  exact ⟨_, rfl, arrival_of_makeAt h hstands rfl (hstands.not_due_of_same rfl hdue)⟩

/-- Log 6: a make that reaches SQ before the first burst, or in RING WAIT, is what the row names. -/
theorem exec_answerBeforeRing_of_makeAt (h : MakeAt s n (sampleOf a) m0 len)
    (hsq : (s.profileOf n).sq ≤ makeElapsed s n m0)
    (hst : s.stateOf n = .ringWait ∨ s.stateOf n = .ringing ∧ ∃ b, s.bookingOf n = some b ∧ b.firstBurst = false) :
    exec (.answerBeforeRing n a) s = .next (s.arrival n a) := by
  have hstands := stands_of_ringing h (hst.symm.imp And.left id)
  have hstate : ((s.delivered n).afterClear n (sampleOf a)).stateOf n = s.stateOf n := hstands.stateOf
  have hbooking : ((s.delivered n).afterClear n (sampleOf a)).bookingOf n = s.bookingOf n := by
    rw [State.bookingOf, hstands.sched, State.bookingOf]
  refine congrArg Host.Outcome.next (arrivalIf_true (bringsMake_of_makeAt h ?_))
  rw [hstands.profileOf, hstate, hbooking, decide_eq_true hsq, Bool.true_and]
  rcases hst with hst | ⟨hst, b, hb, hfirst⟩
  · simp [hst]
  · simp [hst, hb, hfirst]

end

/-- Settles O41: what the make brings about is `afterElapsed_of_ringing` and `afterElapsed_of_waiting`. -/
theorem makeAnswersTheRing : Obligations.MakeAnswersTheRing := by
  intro s n a m0 len h l reaches
  refine ⟨fun hst b hb => ?_, fun hst => ?_⟩
  · have hitems := afterElapsed_of_ringing h hst hb
    refine ⟨fun hfirst => ?_, fun hfirst hsq => ?_, fun hfirst hsq hdue => ?_⟩
    · exact ⟨_, rfl, arrival_of_ringing_answered h hst (hitems.trans (if_pos hfirst))⟩
    · rw [hfirst] at hitems
      exact ⟨_, exec_answerBeforeRing_of_makeAt h hsq (.inr ⟨hst, b, hb, hfirst⟩),
        arrival_of_ringing_answered h hst (hitems.trans (if_pos hsq))⟩
    · rw [hfirst] at hitems
      exact arrival_of_unanswered h (.inl hst) (hitems.trans (if_neg hsq)) hdue
  · have hitems := afterElapsed_of_waiting h hst
    refine ⟨fun hsq => ?_, fun hsq hdue => ?_⟩
    · obtain ⟨hline, hsched⟩ := arrival_of_answered h (.inr hst) (works_dropWaits _ n) rfl
        (hitems.trans (if_pos hsq))
      refine ⟨_, exec_answerBeforeRing_of_makeAt h hsq (.inl hst), hline, ?_⟩
      rw [hsched, dropWaits_line_ne, (stands_of_ringing h (.inr hst)).sched]
    · exact arrival_of_unanswered h (.inr hst) (hitems.trans (if_neg hsq)) hdue

end Sys2Proof.Machine
end

section
/-! PROOFS. O42: a sample in a burst, and the trip. -/

namespace Sys2Proof.Machine

open Sys2Proof.Safety

section

variable {s t : State} {n : LineNo} {a : Option Byte} {v : Nat} {b : Booking} {c : Classifier}

/-! ### Stage 2 in burst mode (R39, R48) -/

/-- R39: bursts are watched in RINGING alone. -/
theorem ringing_of_burst (h : s.modeOf n = .burst) : s.stateOf n = .ringing := by
  have hmode : (s.line n).mode (s.arrivalInstant n) = .burst := h
  unfold Line.mode at hmode
  unfold State.stateOf
  cases hs : (s.line n).sup.state <;> rw [hs] at hmode <;> dsimp only at hmode
  case outOfService | learning | ringGuard | testing => cases hmode
  all_goals split at hmode <;> cases hmode

/-- Line n with its sample taken and this trip-confirm count (R25, R48). -/
def countedTrip (s : State) (n : LineNo) (k : Nat) : Line :=
  sampledLine s n { (s.line n).cls with tripCount := k }

theorem classified_of_burst (h : s.modeOf n = .burst) (v : Nat) :
    (s.delivered n).classified n v = (s.line n).cls.tripWatch (s.profileOf n) v := by
  rw [delivered_classified, h]
  rfl

theorem tripThreshold_eq (s : State) (n : LineNo) : tripThreshold (s.profileOf n) (s.line n).cls = tripAt s n := rfl

/-- R48: a sample below the threshold zeroes the count. -/
theorem classified_of_low (h : s.modeOf n = .burst) (hv : v < tripAt s n) :
    (s.delivered n).classified n v = ((countedTrip s n 0).cls, .nothing) := by
  rw [classified_of_burst h, Classifier.tripWatch, tripThreshold_eq, if_neg (Nat.not_le.2 hv)]
  rfl

/-- R48: one at or above it raises the count, below the profile's. -/
theorem classified_of_rise (h : s.modeOf n = .burst) (hv : tripAt s n ≤ v)
    (hcount : (s.line n).cls.tripCount + 1 < (s.profileOf n).tripConfirm) :
    (s.delivered n).classified n v = ((countedTrip s n ((s.line n).cls.tripCount + 1)).cls, .nothing) := by
  rw [classified_of_burst h, Classifier.tripWatch, tripThreshold_eq, if_pos hv, if_neg (Nat.not_le.2 hcount)]
  rfl

/-- R48: the one that reaches the profile's count is a trip. -/
theorem classified_of_trip (h : s.modeOf n = .burst) (hv : tripAt s n ≤ v)
    (hcount : (s.profileOf n).tripConfirm ≤ (s.line n).cls.tripCount + 1) :
    (s.delivered n).classified n v =
      ((countedTrip s n 0).cls, { HandOn.nothing with event := some .trip }) := by
  rw [classified_of_burst h, Classifier.tripWatch, tripThreshold_eq, if_pos hv, if_pos hcount]
  rfl

/-! ### The rest of the arrival (R40) -/

theorem checksLeakage_of_burst (h : s.modeOf n = .burst) (v : Nat) :
    (s.delivered n).checksLeakage n v = true := by
  unfold State.checksLeakage
  rw [delivered_modeOf, h]

theorem afterItems_of_burst (h : s.modeOf n = .burst) (v : Nat) :
    (s.delivered n).afterItems n v = (s.delivered n).afterElapsed n v := by
  unfold State.afterItems
  rw [delivered_modeOf, h]

/-- R40: in a burst the stages after the items are the deadline and the leakage check. -/
theorem arrival_of_burst (hs : Sampled s n) (hm : s.modeOf n = .burst)
    (hitems : (s.delivered n).afterElapsed n (sampleOf a) = t) (hdue : t.deadlineDue n = none)
    (hprofile : (t.line n).sup.profile = (s.line n).sup.profile) :
    (s.arrival n a).line n = leakChecked s (s.profileOf n).ll (t.line n) ∧ (s.arrival n a).sched = t.sched := by
  refine arrival_of_afterStage3 hs (by simp [ringing_of_burst hm]) (checksLeakage_of_burst hm _) ?_ hprofile
  rw [State.afterStage3, afterItems_of_burst hm, hitems, judgeDeadline_of_not_due hdue]

/-- R48: a sample of a burst that is no trip leaves the count alone changed. -/
theorem leaves_countedTrip (hs : Sampled s n) (hm : s.modeOf n = .burst) (hdue : s.deadlineDue n = none) {k : Nat}
    (hclass : (s.delivered n).classified n (sampleOf a) = ((countedTrip s n k).cls, .nothing)) :
    Leaves (.sampleArrival n a) s n (countedTrip s n k) := by
  have halike := alike_afterStage2 s n (sampleOf a)
  have hitems : (s.delivered n).afterElapsed n (sampleOf a) = (s.delivered n).afterStage2 n (sampleOf a) := by
    rw [State.afterElapsed, afterClear_of_ignored hclass (ignored_nothing s n _), State.handOn, hclass]
    rfl
  obtain ⟨hline, hsched⟩ := arrival_of_burst hs hm hitems (halike.deadlineDue.trans hdue)
    (congrArg Supervision.profile halike.sup)
  rw [afterStage2_line hclass] at hline
  exact ⟨_, rfl, hline, hsched.trans halike.sched⟩

/-! ### The trip (R116, R134) -/

/-- R116: the line that a trip at `now` takes to RING GUARD, by the trip release mode. -/
def trippedLine (p : Params) (l : Line) (now : Instant) : Line :=
  let g := guardedLine l .inCall
  match p.tripMode with
  | .atCrossing => g
  | .immediate => { g with
      sup := { g.sup with guardRecord := some { guardEnd := some (now + p.guardTime * 4000), target := .inCall } }
      rel := { g.rel with ringRelay := none, pending := .none, windowEnd := some (now + 10 * 4000) } }

theorem trippedLine_sup (p : Params) (l : Line) (now : Instant) :
    (trippedLine p l now).sup.deadline = none ∧ (trippedLine p l now).sup.profile = l.sup.profile := by
  unfold trippedLine
  dsimp only
  split <;> exact ⟨rfl, rfl⟩

/-- R116, R134: a trip in RINGING; the trip-confirm count that the release zeroes is 0 already. -/
theorem itemTrip_line (hst : t.stateOf n = .ringing) (hb : t.bookingOf n = some b)
    (hcount : (t.line n).cls.tripCount = 0) (now : Instant) : (t.itemTrip n now).line n =
      reported t (trippedLine t.control.params (t.line n) now) (.answer .inBurst b.framesRung) := by
  have hreleased : (t.line n).cls.relayReleased = (t.line n).cls := by
    rw [Classifier.relayReleased, ← hcount]
  unfold State.itemTrip trippedLine
  rw [hst, hb]
  dsimp only
  rw [State.report_line_same, State.updLine_line_same, State.dropBookings_line]
  cases t.control.params.tripMode with
  | atCrossing => rfl
  | immediate =>
    dsimp only
    rw [Line.switchReleased, Line.enterGuard_cls, hreleased]
    rfl

theorem itemTrip_sched (hst : t.stateOf n = .ringing) (hb : t.bookingOf n = some b) (now : Instant) :
    (t.itemTrip n now).sched = (t.dropBookings (· = n)).sched := by
  unfold State.itemTrip
  rw [hst, hb]
  rfl

/-- R48, R116: the sample that brings a trip about. -/
theorem arrival_of_trip (hs : Sampled s n) (hm : s.modeOf n = .burst) (hb : s.bookingOf n = some b)
    (hclass : (s.delivered n).classified n (sampleOf a) =
      ((countedTrip s n 0).cls, { HandOn.nothing with event := some .trip })) :
    (s.arrival n a).line n = leakChecked s (s.profileOf n).ll (reported s
        (trippedLine s.control.params (countedTrip s n 0) (s.arrivalInstant n)) (.answer .inBurst b.framesRung)) ∧
      (s.arrival n a).sched = (s.dropBookings (· = n)).sched := by
  have halike := alike_afterStage2 s n (sampleOf a)
  have hstate := halike.stateOf.trans (ringing_of_burst hm)
  have hbooking := halike.bookingOf.trans hb
  have hitems : (s.delivered n).afterElapsed n (sampleOf a) =
      ((s.delivered n).afterStage2 n (sampleOf a)).itemTrip n (s.arrivalInstant n) := by
    rw [State.afterElapsed, State.afterClear, State.afterEvent, State.handOn, hclass]
    rfl
  have htrip := itemTrip_line hstate hbooking (by rw [afterStage2_line hclass]; rfl) (s.arrivalInstant n)
  rw [afterStage2_line hclass, halike.control, reported_congr halike.control halike.shelfTime] at htrip
  obtain ⟨hdeadline, hprofile⟩ := trippedLine_sup s.control.params (countedTrip s n 0) (s.arrivalInstant n)
  obtain ⟨hline, hsched⟩ := arrival_of_burst hs hm hitems
    (deadlineDue_of_none (by rw [htrip]; exact hdeadline)) (by rw [htrip]; exact hprofile)
  refine ⟨hline.trans (congrArg _ htrip), hsched.trans ((itemTrip_sched hstate hbooking _).trans ?_)⟩
  simp only [State.dropBookings, halike.sched]

end

/-- Settles O42: the count is `leaves_countedTrip`, and the trip `arrival_of_trip`. -/
theorem tripStartsGuard : Obligations.TripStartsGuard := by
  intro n a s b hb hs hm hdue l count
  refine ⟨fun hv => leaves_countedTrip hs hm hdue (classified_of_low hm hv),
    fun hv hcount => leaves_countedTrip hs hm hdue (classified_of_rise hm hv hcount), fun hv hcount => ?_⟩
  have hclass := classified_of_trip hm hv hcount
  obtain ⟨hline, hsched⟩ := arrival_of_trip hs hm hb hclass
  exact ⟨_, congrArg Host.Outcome.next (arrivalIf_true (bringsEvent_eq_true hs hclass rfl rfl)), hline,
    unbooked_of_sched hsched⟩

end Sys2Proof.Machine
end

section
/-! PROOFS. O43: the end of a guard, toward its exit target. -/

namespace Sys2Proof.Machine

open Sys2Proof.Safety

section

variable {s t : State} {n : LineNo} {a : Option Byte} {g : GuardRecord}

/-! ### A sample in RING GUARD (R39, R46, R118) -/

/-- R39: a guard is the ignore mode. -/
theorem ignore_of_ringGuard (h : s.stateOf n = .ringGuard) : s.modeOf n = .ignore := by
  unfold State.modeOf Line.mode
  rw [show (s.line n).sup.state = .ringGuard from h]

/-- R118: a guard is over at the first arrival at or after its end. -/
theorem guardOver_eq {l : Line} (hst : l.sup.state = .ringGuard) (hg : l.sup.guardRecord = some g) (now : Instant) :
    l.guardOver now = if g.guardEnd.any (fun e => decide (e ≤ now)) then some g.target else none := by
  simp only [Line.guardOver, hst, hg]
  cases g.guardEnd <;> simp

/-- R118: in RING GUARD a sample ends the guard or is ignored. -/
theorem ignoredSample_of_ringGuard (hst : t.stateOf n = .ringGuard) (hg : (t.line n).sup.guardRecord = some g)
    (now : Instant) (v : Nat) : t.ignoredSample n now v =
      if g.guardEnd.any (fun e => decide (e ≤ now)) then t.endGuard n g.target else t := by
  have hmeasured : (t.line n).measured now v = none := by
    simp only [Line.measured, show (t.line n).sup.state = .ringGuard from hst]
  unfold State.ignoredSample
  rw [guardOver_eq hst hg, hmeasured]
  split <;> simp_all

/-- R40: in the ignore mode nothing follows the items but the deadline. -/
theorem arrival_of_ignore (hs : Sampled s n) (hm : s.modeOf n = .ignore) :
    s.arrival n a =
      ((s.delivered n).ignoredSample n (s.arrivalInstant n) (sampleOf a)).judgeDeadline n := by
  have hm' : (s.delivered n).modeOf n = .ignore := (delivered_modeOf s n).trans hm
  rw [arrival_of_sampled hs]
  simp only [State.stages, State.checksLeakage, State.afterStage4, State.afterStage3, hm', afterItems_of_ignore hm']
  rfl

/-- R118: a sample arrival of a line in RING GUARD. -/
theorem arrival_of_ringGuard (hs : Sampled s n) (hst : s.stateOf n = .ringGuard)
    (hg : (s.line n).sup.guardRecord = some g) (hdue : s.deadlineDue n = none) : s.arrival n a =
      if g.guardEnd.any (fun e => decide (e ≤ s.arrivalInstant n)) then (s.delivered n).endGuard n g.target
      else s.delivered n := by
  rw [arrival_of_ignore hs (ignore_of_ringGuard hst), ignoredSample_of_ringGuard (g := g)
    ((delivered_stateOf s n).trans hst) (by rw [delivered_line]; exact hg)]
  split
  · obtain ⟨-, hdeadline, -⟩ := endGuard_line (s.delivered n) n g.target
    exact judgeDeadline_of_not_due (deadlineDue_of_none hdeadline)
  · exact judgeDeadline_of_not_due ((alike_delivered s n).deadlineDue.trans hdue)

/-- Log 6: the row is the whole arrival where the guard ends, and nothing where it does not. -/
theorem exec_guardEnd (hs : Sampled s n) (hst : s.stateOf n = .ringGuard)
    (hg : (s.line n).sup.guardRecord = some g) : exec (.guardEnd n a) s =
      .next (s.arrivalIf (g.guardEnd.any fun e => decide (e ≤ s.arrivalInstant n)) n a) := by
  have hrow : s.bringsGuardEnd n = g.guardEnd.any fun e => decide (e ≤ s.arrivalInstant n) := by
    rw [State.bringsGuardEnd, delivers_iff.2 hs, guardOver_eq hst hg, Bool.true_and]
    split <;> simp_all
  rw [← hrow]
  rfl

/-! ### The exit (R118, R102, R79, R103) -/

theorem guardTo_eq_unguarded (s : State) (n : LineNo) (st : LineState) :
    ((s.delivered n).line n).guardTo st = unguarded s n st (s.line n).cls.confirmed := by
  rw [delivered_line]
  rfl

theorem guardToCall_eq_unguarded (s : State) (n : LineNo) :
    ((s.delivered n).line n).guardToCall = unguarded s n .inCall .closed := by
  rw [delivered_line]
  rfl

/-- R102: where an evicted line joins. -/
theorem joinEvicted_place (s : State) (w : WaitEntry) (k : EvictionMark) :
    ∃ i, i < s.sched.waits.length + 1 ∧
      (s.joinEvicted w k).sched = { s.sched with
        waits := s.sched.waits.take i ++ w :: s.sched.waits.drop i } ∧
      (∀ e ∈ s.sched.waits.drop i, batchAhead k e = false) ∧
      (i = 0 ∨ (s.sched.waits.take i).getLast?.any (batchAhead k) = true) := by
  have hbehind : k.behind = batchAhead k := funext fun e => by
    unfold EvictionMark.behind batchAhead
    cases e.mark <;> rfl
  unfold State.joinEvicted
  cases hi : insertBehindLast k.behind w s.sched.waits with
  | none => exact ⟨0, Nat.succ_pos _, rfl, hbehind ▸ insertBehindLast_none hi, .inl rfl⟩
  | some ws =>
    obtain ⟨front, x, back, hwaits, rfl, hx, hback⟩ := insertBehindLast_some hi
    have hsplit : s.sched.waits = (front ++ [x]) ++ back := by simp [hwaits]
    have hlength : front.length + 1 = (front ++ [x]).length := by simp
    refine ⟨front.length + 1, ?_, ?_, ?_, .inr ?_⟩
    · simp [hwaits]
    · rw [hsplit, hlength, List.take_left, List.drop_left]
      simp
    · rw [hsplit, hlength, List.drop_left, ← hbehind]
      exact hback
    · rw [hsplit, hlength, List.take_left, ← hbehind]
      simpa using hx

/-- R118: the guard's end is what `ExitsTo` says of its target. -/
theorem exitsTo_endGuard (s : State) (n : LineNo) (target : ExitTarget) :
    ExitsTo s ((s.delivered n).endGuard n target) n target := by
  match target with
  | .inCall =>
    refine ⟨?_, rfl⟩
    rw [State.endGuard, State.updLine_line_same, guardToCall_eq_unguarded]
  | .idle =>
    refine ⟨?_, rfl⟩
    rw [State.endGuard, State.updLine_line_same, guardTo_eq_unguarded]
  | .ringWait .noRoom p m =>
    refine ⟨?_, rfl⟩
    unfold State.endGuard
    dsimp only
    rw [State.report_line_same, State.joinTail_line, State.updLine_line_same, guardTo_eq_unguarded]
    rfl
  | .ringWait (.evicted k) p m =>
    refine ⟨?_, joinEvicted_place s (newWait n p m (some k)) k⟩
    unfold State.endGuard
    dsimp only
    rw [State.report_line_same, State.joinEvicted_line, State.updLine_line_same, guardTo_eq_unguarded]
    rfl

end

/-- Settles O43: the arrival is `arrival_of_ringGuard`, and the exit `exitsTo_endGuard`. -/
theorem guardEndsTowardTarget : Obligations.GuardEndsTowardTarget := by
  intro n a s g hg hs hst hdue ended
  have harrival := arrival_of_ringGuard (a := a) hs hst hg hdue
  have hexec := exec_guardEnd (a := a) hs hst hg
  refine ⟨fun hnot => ⟨?_, _, rfl, ?_, ?_⟩, fun hended => ⟨_, ?_, exitsTo_endGuard s n g.target⟩⟩
  · rw [hexec, arrivalIf_false (Bool.eq_false_iff.2 hnot)]
  · rw [harrival, if_neg hnot, delivered_line]
  · rw [harrival, if_neg hnot]
    rfl
  · rw [hexec, arrivalIf_true hended, harrival, if_pos hended]

end Sys2Proof.Machine
end

section
/-! PROOFS. O49 and O50: a frame end keeps the ring lists matched to the states, and spares every other line. -/

namespace Sys2Proof.Machine

open Sys2Proof.Safety

/-! ### A line that an operation of others spares -/

/-- From `s` to `t` line n stands as it was, with its entries of the two ring lists. -/
structure Spares (n : LineNo) (s t : State) : Prop where
  line : t.line n = s.line n
  bookings : t.sched.bookings.filter (fun b => decide (b.line = n)) =
    s.sched.bookings.filter fun b => decide (b.line = n)
  waits : t.sched.waits.filter (fun w => decide (w.line = n)) = s.sched.waits.filter fun w => decide (w.line = n)

/-- One line's share of `ListsMatchStates` (R93). -/
structure State.Placed (s : State) (n : LineNo) : Prop where
  booked : s.booked n = if s.stateOf n = .ringing then 1 else 0
  waiting : s.waiting n = if s.stateOf n = .ringWait then 1 else 0

theorem filter_line_of_filter_ne {α : Type} {line : α → LineNo} {n m : LineNo} {as bs : List α} (hm : m ≠ n)
    (h : as.filter (fun a => decide (line a ≠ n)) = bs.filter fun b => decide (line b ≠ n)) :
    as.filter (fun a => decide (line a = m)) = bs.filter fun b => decide (line b = m) := by
  have hpick (cs : List α) : cs.filter (fun c => decide (line c = m)) =
      (cs.filter fun c => decide (line c ≠ n)).filter fun c => decide (line c = m) := by
    rw [List.filter_filter]
    refine List.filter_congr fun c _ => ?_
    by_cases hc : line c = m <;> simp [hc, hm]
  rw [hpick as, h, ← hpick bs]

/-- In a list with one entry for a line at most, the entries of a line that has one are that one. -/
theorem filter_line_of_nodup {α : Type} {line : α → LineNo} {as : List α} (h : (as.map line).Nodup) {a : α}
    (ha : a ∈ as) : as.filter (fun x => decide (line x = line a)) = [a] := by
  induction as with
  | nil => cases ha
  | cons x xs ih =>
    obtain ⟨hx, hxs⟩ := List.nodup_cons.1 h
    rcases List.mem_cons.1 ha with rfl | ha
    · rw [List.filter_cons_of_pos (by simp), List.filter_eq_nil_iff.2]
      intro y hy
      simpa using fun heq : line y = line a => hx (heq ▸ List.mem_map_of_mem hy)
    · have hne : line x ≠ line a := fun heq => hx (heq ▸ List.mem_map_of_mem ha)
      rw [List.filter_cons_of_neg (by simpa using hne), ih hxs ha]

section

variable {s t u x : State} {n m : LineNo} {c : FrameSlot} {b : Booking} {w : WaitEntry}

theorem Spares.refl (n : LineNo) (s : State) : Spares n s s := ⟨rfl, rfl, rfl⟩

theorem Spares.trans (h : Spares n s t) (h' : Spares n t u) : Spares n s u :=
  ⟨h'.line.trans h.line, h'.bookings.trans h.bookings, h'.waits.trans h.waits⟩

theorem Touches.spares (h : Touches m s t) (hne : n ≠ m) : Spares n s t :=
  ⟨h.others.1 n hne, filter_line_of_filter_ne hne h.others.2.1, filter_line_of_filter_ne hne h.others.2.2⟩

theorem Spares.bookingOf (h : Spares n s t) : t.bookingOf n = s.bookingOf n := by
  unfold State.bookingOf
  rw [← List.head?_filter, ← List.head?_filter, h.bookings]

theorem Spares.mem_bookings (h : Spares n s t) (hb : b.line = n) :
    b ∈ t.sched.bookings ↔ b ∈ s.sched.bookings := by
  have hmem := congrArg (b ∈ ·) h.bookings
  simpa [hb] using hmem

theorem Spares.mem_waits (h : Spares n s t) (hw : w.line = n) : w ∈ t.sched.waits ↔ w ∈ s.sched.waits := by
  have hmem := congrArg (w ∈ ·) h.waits
  simpa [hw] using hmem

theorem Spares.lists (h : Spares n s t) : t.sched.Lists n ↔ s.sched.Lists n := by
  unfold Scheduler.Lists
  simp only [List.mem_map]
  exact or_congr (exists_congr fun b => and_congr_left h.mem_bookings)
    (exists_congr fun w => and_congr_left h.mem_waits)

/-! ### Lists that match the states, line by line (R93) -/

theorem listsMatchStates_iff : ListsMatchStates s ↔ ∀ n, s.Placed n := by
  constructor
  · rintro ⟨hb, hw, hbn, hwn⟩ n
    exact ⟨count_lines_iff.1 ⟨hb, hbn⟩ n, count_lines_iff.1 ⟨hw, hwn⟩ n⟩
  · intro h
    have ⟨hb, hbn⟩ := count_lines_iff.2 fun n => (h n).booked
    have ⟨hw, hwn⟩ := count_lines_iff.2 fun n => (h n).waiting
    exact ⟨hb, hw, hbn, hwn⟩

theorem Touches.listsMatchStates (h : Touches n s t) (hn : s.Placed n → t.Placed n) (hs : ListsMatchStates s) :
    ListsMatchStates t := by
  have hplaced := listsMatchStates_iff.1 hs
  refine listsMatchStates_iff.2 fun m => ?_
  by_cases hm : m = n
  · exact hm ▸ hn (hplaced n)
  · exact ⟨by rw [h.booked hm, h.stateOf hm, (hplaced m).booked],
      by rw [h.waiting hm, h.stateOf hm, (hplaced m).waiting]⟩

theorem State.Placed.ringing (h : s.Placed n) (hb : s.bookingOf n = some b) : s.stateOf n = .ringing := by
  by_contra hst
  have hline : b.line = n := by simpa using List.find?_some hb
  exact List.count_eq_zero.1 (h.booked.trans (if_neg hst))
    (hline ▸ List.mem_map_of_mem (List.mem_of_find?_eq_some hb))

theorem not_lists_of_stateOf (hlists : ListsMatchStates s)
    (hst : s.stateOf n ≠ .ringing ∧ s.stateOf n ≠ .ringWait) :
    ¬s.sched.Lists n := by
  obtain ⟨hb, hw, -, -⟩ := hlists
  rw [Scheduler.Lists, hb, hw]
  exact not_or.2 hst

/-- A line that no list holds, in a state that no list holds. -/
theorem placed_of_rest (hb : t.booked n = 0) (hw : t.waiting n = 0)
    (hst : t.stateOf n ≠ .ringing ∧ t.stateOf n ≠ .ringWait) : t.Placed n :=
  ⟨hb.trans (if_neg hst.1).symm, hw.trans (if_neg hst.2).symm⟩

/-! ### A frame end (R110, R111) -/

/-- Where no line has two bookings, the load of the one that is removed leaves (R94). -/
theorem dropBookings_eq_without (hnodup : (x.sched.bookings.map Booking.line).Nodup)
    (hb : x.bookingOf n = some b) : x.dropBookings (· = n) = { x with sched := without x n b } := by
  have hline : b.line = n := by simpa using List.find?_some hb
  have hone := filter_line_of_nodup hnodup (List.mem_of_find?_eq_some hb)
  rw [hline] at hone
  have hbookings := dropBookings_line_ne x n
  rw [State.dropBookings_sched_bookings] at hbookings
  unfold State.dropBookings without
  rw [hone, hbookings]
  rfl

theorem limitedLine_state (l : Line) :
    (if Busy l then guardedLine l .idle else movedLine l .idle).sup.state ≠ .ringing ∧
      (if Busy l then guardedLine l .idle else movedLine l .idle).sup.state ≠ .ringWait := by
  split <;> exact ⟨by simp [guardedLine, movedLine], by simp [guardedLine, movedLine]⟩

theorem ringToIdle_stateOf (x : State) (n : LineNo) :
    (x.ringToIdle n).stateOf n ≠ .ringing ∧ (x.ringToIdle n).stateOf n ≠ .ringWait := by
  rw [State.stateOf, ringToIdle_line]
  exact limitedLine_state _

theorem State.Placed.report (h : x.Placed n) (m : LineNo) (r : Report) : (x.report m r).Placed n := by
  refine ⟨?_, ?_⟩ <;> rw [report_stateOf]
  · exact h.booked
  · exact h.waiting

theorem book_stateOf (x : State) (n : LineNo) (p : Fin 4) (r : FrameSlot) (frames : Nat) :
    (x.book n p r frames).stateOf n = .ringing :=
  congrArg (fun l : Line => l.sup.state) (book_line x n p r frames)

theorem waitAtTail_stateOf (x : State) (n : LineNo) (p : Fin 4) (frames : Nat) :
    (x.waitAtTail n p frames).stateOf n = .ringWait :=
  congrArg (fun l : Line => l.sup.state) (waitAtTail_line x n p frames)

theorem book_sched (x : State) (n : LineNo) (p : Fin 4) (r : FrameSlot) (frames : Nat) :
    (x.book n p r frames).sched = withTail x.sched (admitted x n p r frames false) := rfl

/-- R111: a line without an entry is booked, awaits its guard, or joins the wait list. -/
theorem placed_book (hb : x.booked n = 0) (hw : x.waiting n = 0) (p : Fin 4) (r : FrameSlot) (frames : Nat) :
    (x.book n p r frames).Placed n where
  booked := by
    rw [book_stateOf, if_pos rfl, State.booked, book_sched, withTail, List.map_append, List.count_append]
    exact (congrArg (· + _) hb).trans (by simp [admitted])
  waiting := by
    rw [book_stateOf]
    exact hw

theorem placed_guardWithRelease (hb : x.booked n = 0) (hw : x.waiting n = 0) (target : ExitTarget) :
    (x.guardWithRelease n target).Placed n :=
  placed_of_rest hb hw <| by
    rw [State.stateOf, guardWithRelease_line]
    exact ⟨by simp [guardedLine], by simp [guardedLine]⟩

theorem placed_waitAtTail (hb : x.booked n = 0) (hw : x.waiting n = 0) (p : Fin 4) (frames : Nat) :
    (x.waitAtTail n p frames).Placed n where
  booked := by
    rw [waitAtTail_stateOf]
    exact hb
  waiting := by
    rw [waitAtTail_stateOf, if_pos rfl, State.waiting, waitAtTail_sched, List.map_append, List.count_append]
    exact (congrArg (· + _) hw).trans (by simp [newWait])

theorem placed_applyChange (hb : (x.dropBookings (· = n)).booked n = 0)
    (hw : (x.dropBookings (· = n)).waiting n = 0) (c : FrameSlot) (change : PendingChange) :
    (x.applyChange n c change).Placed n := by
  unfold State.applyChange
  dsimp only
  split
  · exact (placed_book hb hw _ _ _).report n _
  · split
    · exact placed_guardWithRelease hb hw _
    · exact (placed_waitAtTail hb hw _ _).report n _

theorem updBooking_lines (x : State) (n : LineNo) {f : Booking → Booking} (hf : ∀ b, (f b).line = b.line) :
    (x.updBooking n f).sched.bookings.map Booking.line = x.sched.bookings.map Booking.line :=
  map_line_map (fun b => by split <;> simp [hf]) _

theorem placed_frameEnd (h : x.Placed n) (c : FrameSlot) : (x.frameEnd c n).Placed n := by
  unfold State.frameEnd
  split
  · exact h
  · next b hb =>
    have hbooked : (x.dropBookings (· = n)).booked n = 0 := by simp [dropBookings_booked]
    have hwaiting : (x.dropBookings (· = n)).waiting n = 0 := h.waiting.trans (by simp [h.ringing hb])
    split
    · refine State.Placed.report (placed_of_rest ?_ ?_ (ringToIdle_stateOf _ n)) n _
      · rwa [State.booked, ringToIdle_sched]
      · rwa [State.waiting, ringToIdle_sched]
    · split
      · exact placed_applyChange hbooked hwaiting c _
      · have hlines := updBooking_lines x n (f := fun b => { b with framesRung := b.frameCount }) fun _ => rfl
        exact ⟨(congrArg (List.count n) hlines).trans h.booked, h.waiting⟩

theorem frameEnd_lists (h : ListsMatchStates x) (c : FrameSlot) (n : LineNo) : ListsMatchStates (x.frameEnd c n) :=
  (works_frameEnd c x n).touches.listsMatchStates (fun hn => placed_frameEnd hn c) h

/-- R92: the table stays right at a frame end. -/
theorem frameEnd_loads (h : LoadsMatch x) (c : FrameSlot) (n : LineNo) : LoadsMatch (x.frameEnd c n) := by
  have hdropped : LoadsMatch (x.dropBookings (· = n)) := fun k => dropBookings_loads _ k (h k)
  unfold State.frameEnd
  split
  · exact h
  · split
    · rwa [LoadsMatch, State.report_sched, ringToIdle_sched]
    · split
      · unfold State.applyChange
        dsimp only
        split
        · exact fun k => addBooking_loads _ k (hdropped k)
        · split
          · exact hdropped
          · exact hdropped
      · refine fun k => (h k).trans (congrArg List.sum ?_)
        refine (List.map_map.trans (List.map_congr_left fun b _ => ?_)).symm
        dsimp only [Function.comp_apply]
        split <;> rfl

/-! ### The frame ends of a boundary, one after the other (R110) -/

theorem frameEnds_lists (h : ListsMatchStates x) (c : FrameSlot) (ns : List LineNo) :
    ListsMatchStates (ns.foldl (State.frameEnd c) x) := by
  induction ns generalizing x with
  | nil => exact h
  | cons n ns ih => exact ih (frameEnd_lists h c n)

theorem frameEnds_loads (h : LoadsMatch x) (c : FrameSlot) (ns : List LineNo) :
    LoadsMatch (ns.foldl (State.frameEnd c) x) := by
  induction ns generalizing x with
  | nil => exact h
  | cons n ns ih => exact ih (frameEnd_loads h c n)

theorem frameEnds_shelf (x : State) (c : FrameSlot) (ns : List LineNo) :
    ShelfKept x (ns.foldl (State.frameEnd c) x) := by
  induction ns generalizing x with
  | nil => exact .refl x
  | cons n ns ih => exact (works_frameEnd c x n).touches.shelf.trans (ih _)

theorem spares_frameEnds {ns : List LineNo} (hn : n ∉ ns) (c : FrameSlot) (x : State) :
    Spares n x (ns.foldl (State.frameEnd c) x) := by
  induction ns generalizing x with
  | nil => exact .refl n x
  | cons m ns ih =>
    obtain ⟨hnm, hns⟩ := not_or.1 (mt List.mem_cons.2 hn)
    exact ((works_frameEnd c x m).touches.spares hnm).trans (ih hns _)

/-- The frame end of line n, between those of other lines. -/
theorem exists_frameEnd {ns : List LineNo} (hnodup : ns.Nodup) (hn : n ∈ ns) (c : FrameSlot)
    (hlists : ListsMatchStates x) : ∃ y, Spares n x y ∧ ShelfKept x y ∧ ListsMatchStates y ∧
      Spares n (y.frameEnd c n) (ns.foldl (State.frameEnd c) x) := by
  obtain ⟨before, after, rfl⟩ := List.append_of_mem hn
  obtain ⟨-, hnodup', hdisjoint⟩ := List.nodup_append.1 hnodup
  have hbefore : n ∉ before := fun hm => hdisjoint n hm n (by simp) rfl
  refine ⟨before.foldl (State.frameEnd c) x, spares_frameEnds hbefore c x, frameEnds_shelf x c before,
    frameEnds_lists hlists c before, ?_⟩
  rw [List.foldl_append, List.foldl_cons]
  exact spares_frameEnds (List.nodup_cons.1 hnodup').1 c _

end
end Sys2Proof.Machine
end

section
/-! PROOFS. O49 and O50: the stages of a boundary after the frame ends. -/

namespace Sys2Proof.Machine

open Sys2Proof.Safety

section

variable {s x : State} {n : LineNo} {c : FrameSlot} {e : Nat} {begun : List LineNo} {early late : List BusWrite}
  {b : Booking}

/-- The state of the boundary that starts slot c, due at `e`, after its frame ends (R109, stages 1 and 2). -/
def State.ended (s : State) (c : FrameSlot) (e : Nat) : State := (clocked s c e).frameEnds c

theorem ended_lists (h : ListsMatchStates s) (c : FrameSlot) (e : Nat) : ListsMatchStates (s.ended c e) :=
  frameEnds_lists (x := clocked s c e) h c _

theorem ended_shelf (s : State) (c : FrameSlot) (e : Nat) : ShelfKept (clocked s c e) (s.ended c e) :=
  frameEnds_shelf _ c _

/-- R109: the boundary that is due, stage by stage. -/
theorem takeBoundary_of_boundary (h : Boundary s c e) (early late : List BusWrite) :
    s.takeBoundary early late =
      (requested (s.ended c e) c).boundaryTail c (s.sched.waits.map WaitEntry.line) early late := by
  have hdue := boundaryDue_of_boundary h
  obtain ⟨-, -, -, rfl⟩ := h
  rw [← relayRequests_eq, State.takeBoundary, hdue]
  rfl

/-! ### The counting and the load, without a word about the tones (R113, R20) -/

theorem countWaits_line (hnodup : (x.sched.waits.map WaitEntry.line).Nodup) (begun : List LineNo) (n : LineNo) :
    (x.countWaits begun).line n = (counted x begun).line n := by
  rw [countWaits_eq, foldl_endWait_line (leavers_nodup (aged_lines x begun ▸ hnodup)), counted_line]
  rfl

theorem countWaits_sched (hnodup : (x.sched.waits.map WaitEntry.line).Nodup) (begun : List LineNo) :
    (x.countWaits begun).sched = (counted x begun).sched := by
  rw [countWaits_eq, foldl_endWait_sched, filter_leavers (aged_lines x begun ▸ hnodup), counted_sched]
  rfl

theorem countWaits_lists (h : ListsMatchStates x) (begun : List LineNo) : ListsMatchStates (x.countWaits begun) := by
  have hsched := countWaits_sched (waits_nodup h) begun
  exact listsMatchStates_congr (by rw [hsched]) (by rw [hsched])
    (fun n => congrArg (fun l : Line => l.sup.state) (countWaits_line (waits_nodup h) begun n)) (counted_lists h begun)

theorem countWaits_shelf (x : State) (begun : List LineNo) : ShelfKept x (x.countWaits begun) :=
  (confined_countWaits x begun).shelf

/-- R22: the generation is the one taken before, so no load is made. -/
theorem reloadCheck_of_same (h : x.readByte 0x100 = x.control.generationTaken) (early late : List BusWrite) :
    x.reloadCheck early late = x.landed early late := by
  rw [readByte_generationField] at h
  exact if_pos h

theorem reloadCheck_of_changed (h : x.readByte 0x100 ≠ x.control.generationTaken) (early late : List BusWrite) :
    x.reloadCheck early late = x.reload early late := by
  rw [readByte_generationField] at h
  exact if_neg h

theorem generation_congr {y : State} (h : ShelfKept x y) :
    y.readByte 0x100 = x.readByte 0x100 ∧ y.control.generationTaken = x.control.generationTaken := by
  rw [readByte_generationField, readByte_generationField, State.generationField, State.hostByte, h.port, h.control]
  exact ⟨rfl, rfl⟩

theorem boundaryTail_of_ne_zero (hc : c ≠ 0) (begun : List LineNo) (early late : List BusWrite) :
    x.boundaryTail c begun early late = (x.landed early late).walkTo c := by
  rw [boundaryTail_eq, if_neg hc]

/-! ### A line that has left the lists (R109) -/

/-- From `x` to `t` a line outside the ring lists stays outside and as it is. -/
def LeavesUnlisted (x t : State) : Prop := ∀ n, ¬x.sched.Lists n → t.line n = x.line n ∧ ¬t.sched.Lists n

theorem LeavesUnlisted.trans {y z : State} (h : LeavesUnlisted x y) (h' : LeavesUnlisted y z) :
    LeavesUnlisted x z := fun n hn => by
  obtain ⟨hline, hout⟩ := h n hn
  obtain ⟨hline', hout'⟩ := h' n hout
  exact ⟨hline'.trans hline, hout'⟩

theorem Confined.leavesUnlisted {y : State} (h : Confined x y) : LeavesUnlisted x y :=
  fun n hn => ⟨h.lines n hn, mt (h.lists n) hn⟩

theorem Loaded.leavesUnlisted {y : State} (h : Loaded x early late y) : LeavesUnlisted x y :=
  fun n hn => ⟨h.line n, mt (h.lists n).1 hn⟩

theorem leavesUnlisted_reloadCheck (x : State) (early late : List BusWrite) :
    LeavesUnlisted x (x.reloadCheck early late) := by
  obtain ⟨y, hload, hconfined⟩ := reloadCheck_cases x early late
  exact hload.leavesUnlisted.trans hconfined.leavesUnlisted

/-- R113, R109: the stages of a frame boundary after the counting of the waits. -/
theorem leavesUnlisted_of_countWaits (x : State) (begun : List LineNo) (early late : List BusWrite) :
    LeavesUnlisted (x.countWaits begun) (x.boundaryTail 0 begun early late) := by
  rw [boundaryTail_eq, if_pos rfl]
  exact (leavesUnlisted_reloadCheck _ early late).trans (confined_walkTo _ 0).leavesUnlisted

/-- R109: the stages after the relay requests. -/
theorem leavesUnlisted_boundaryTail (x : State) (c : FrameSlot) (begun : List LineNo) (early late : List BusWrite) :
    LeavesUnlisted x (x.boundaryTail c begun early late) := by
  by_cases hc : c = 0
  · subst hc
    exact (confined_countWaits x begun).leavesUnlisted.trans (leavesUnlisted_of_countWaits x begun early late)
  · rw [boundaryTail_of_ne_zero hc]
    exact (loaded_landed x early late).leavesUnlisted.trans (confined_walkTo _ c).leavesUnlisted

/-! ### Stages 3 to 5 are `BoundaryEnds` (R109) -/

theorem requested_toneless (h : Toneless x) (c : FrameSlot) : Toneless (requested x c) :=
  (confined_requested x c).toneless h

theorem counted_toneless (hlists : ListsMatchStates x) (h : Toneless x) (begun : List LineNo) :
    Toneless (counted x begun) := by
  rw [← countWaits_eq_counted (waits_nodup hlists) h]
  exact (confined_countWaits x begun).toneless h

/-- R92: first bursts take no more of the slots. -/
theorem requested_loads (h : LoadsMatch x) (c : FrameSlot) : LoadsMatch (requested x c) := fun k => by
  rw [requested_sched]
  refine (h k).trans (congrArg List.sum ?_)
  exact (List.map_map (f := fun b : Booking => { b with firstBurst := b.firstBurst || decide (b.rotation = c) })
    (g := fun b => b.contribution k) (l := x.sched.bookings)).symm

/-- R22: a frame boundary without a load. -/
theorem walkedTo_boundaryTail_of_same (hlists : ListsMatchStates x) (htoneless : Toneless x)
    (hsame : x.readByte 0x100 = x.control.generationTaken) (begun : List LineNo) (early late : List BusWrite) :
    WalkedTo 0 ((counted x begun).landed early late) (x.boundaryTail 0 begun early late) := by
  have hgeneration := generation_congr (counted_shelf x begun)
  have hsame' : (counted x begun).readByte 0x100 = (counted x begun).control.generationTaken := by
    rw [hgeneration.1, hgeneration.2, hsame]
  rw [boundaryTail_eq, if_pos rfl, countWaits_eq_counted (waits_nodup hlists) htoneless, reloadCheck_of_same hsame']
  exact walkedTo_walkTo (fun _ => landed_lists (counted_lists hlists begun) early late)
    (landed_toneless (counted_toneless hlists htoneless begun) early late)

/-- R20, R22: a frame boundary with a load. -/
theorem reloaded_boundaryTail (hlists : ListsMatchStates x) (hloads : LoadsMatch x) (htoneless : Toneless x)
    (hrun : x.control.shelf = .running) (hchanged : x.readByte 0x100 ≠ x.control.generationTaken)
    (begun : List LineNo) (early late : List BusWrite) :
    ∃ m, Reloaded (counted x begun) early late m ∧ WalkedTo 0 m (x.boundaryTail 0 begun early late) := by
  have hshelf := counted_shelf x begun
  have hgeneration := generation_congr hshelf
  have hchanged' : (counted x begun).readByte 0x100 ≠ (counted x begun).control.generationTaken := by
    rwa [hgeneration.1, hgeneration.2]
  have hlists' := counted_lists hlists begun
  have htoneless' := counted_toneless hlists htoneless begun
  have hloads' : LoadsMatch (counted x begun) := by
    rw [LoadsMatch, counted_sched]
    exact hloads
  have hconfined := confined_reload (counted x begun) early late
  rw [boundaryTail_eq, if_pos rfl, countWaits_eq_counted (waits_nodup hlists) htoneless,
    reloadCheck_of_changed hchanged']
  refine ⟨_, reloaded_reload hloads' (bookings_nodup hlists') htoneless', walkedTo_walkTo (fun hsource => ?_)
    (hconfined.toneless ((loaded_loadMeeting _ early late).toneless htoneless'))⟩
  obtain ⟨-, -, -, -, -, -, hkept, -⟩ := hconfined.shelf
  rw [hkept, loadMeeting_source] at hsource
  exact reload_lists hloads' hlists' (by rwa [hshelf.control]) hsource

/-- R109: stages 3 to 5, after whatever frame ends. -/
theorem boundaryEnds_boundaryTail (hlists : ListsMatchStates x) (hloads : LoadsMatch x) (htoneless : Toneless x)
    (hrun : x.control.shelf = .running) (c : FrameSlot) (begun : List LineNo) (early late : List BusWrite) :
    BoundaryEnds c begun early late x ((requested x c).boundaryTail c begun early late) := by
  have hlists' := requested_lists hlists c
  have htoneless' := requested_toneless htoneless c
  unfold BoundaryEnds
  dsimp only
  split
  · next hc =>
    subst hc
    split
    · next hsame => exact walkedTo_boundaryTail_of_same hlists' htoneless' hsame begun early late
    · next hchanged =>
      have hrun' : (requested x 0).control.shelf = .running := by rwa [(requested_shelf x 0).control]
      exact reloaded_boundaryTail hlists' (requested_loads hloads 0) htoneless' hrun' hchanged begun early late
  · next hc =>
    rw [boundaryTail_of_ne_zero hc]
    exact walkedTo_walkTo (fun _ => landed_lists hlists' early late) (landed_toneless htoneless' early late)

end
end Sys2Proof.Machine
end

section
/-! PROOFS. O50: a frame boundary counts the waits. -/

namespace Sys2Proof.Machine

open Sys2Proof.Safety

section

variable {s x : State} {n : LineNo} {c : FrameSlot} {e : Nat} {begun : List LineNo} {early late : List BusWrite}
  {w : WaitEntry}

/-- R110: the frame ends of a boundary are those of booked lines. -/
theorem spares_ended (hn : n ∉ s.sched.bookings.map Booking.line) (c : FrameSlot) (e : Nat) :
    Spares n s (s.ended c e) := by
  have hmem : n ∉ (clocked s c e).frameEndLines c := mt (fun h => List.map_subset _ List.filter_sublist.subset h) hn
  obtain ⟨hline, hbookings, hwaits⟩ := spares_frameEnds hmem c (clocked s c e)
  exact ⟨hline, hbookings, hwaits⟩

/-- R112: a relay request spares a line without a booking. -/
theorem spares_requested (hn : n ∉ x.sched.bookings.map Booking.line) (c : FrameSlot) :
    Spares n x (requested x c) where
  line := requested_line_of_none (find?_eq_none_of_lines fun b hb (hbn : b.line = n) =>
    hn (hbn ▸ List.mem_map_of_mem hb)) c
  bookings := by
    have hnone {bs : List Booking} (h : n ∉ bs.map Booking.line) : bs.filter (fun b => decide (b.line = n)) = [] :=
      List.filter_eq_nil_iff.2 fun b hb => by simpa using fun hbn : b.line = n => h (hbn ▸ List.mem_map_of_mem hb)
    rw [requested_sched, hnone hn, hnone (by rwa [burstMarked_lines])]
  waits := by rw [requested_sched]

/-- R113: a line whose entry reaches the wait limit when it is counted. -/
theorem mem_leavers_aged (hw : w ∈ x.sched.waits) (hbegun : w.line ∈ begun)
    (hlimit : x.control.params.waitLimit ≤ w.framesWaited + 1) : w.line ∈ (x.aged begun).leavers :=
  mem_leavers.2 ⟨_, List.mem_map_of_mem hw, by rw [if_pos hbegun]; rfl, by rw [if_pos hbegun]; exact hlimit⟩

/-- R113: it goes to IDLE, and stands in neither list. -/
theorem countWaits_of_leaver (hlists : ListsMatchStates x) (hn : n ∈ (x.aged begun).leavers) :
    (x.countWaits begun).line n = reported x (movedLine (x.line n) .idle) .ringEndWaitLimit ∧
      ¬(x.countWaits begun).sched.Lists n := by
  have hline := countWaits_line (waits_nodup hlists) begun n
  rw [counted_line, if_pos hn] at hline
  refine ⟨hline, not_lists_of_stateOf (countWaits_lists hlists begun) ?_⟩
  rw [State.stateOf, hline]
  exact ⟨by simp [reported, movedLine], by simp [reported, movedLine]⟩

/-- R113: the boundary at which line n's entry reaches the wait limit, whatever else it brings. -/
theorem takeBoundary_of_waitLimit (h : Boundary s 0 e) (hlists : ListsMatchStates s) (hw : s.waitOf n = some w)
    (hlimit : s.control.params.waitLimit ≤ w.framesWaited + 1) (early late : List BusWrite) :
    (s.takeBoundary early late).line n = reported s (movedLine (s.line n) .idle) .ringEndWaitLimit ∧
      ¬(s.takeBoundary early late).sched.Lists n := by
  have hmem := List.mem_of_find?_eq_some hw
  obtain rfl : w.line = n := by simpa using List.find?_some hw
  have hbegun := List.mem_map_of_mem (f := WaitEntry.line) hmem
  have hunbooked : w.line ∉ s.sched.bookings.map Booking.line := unbooked_of_lists hlists w hmem
  have hended := spares_ended hunbooked 0 e
  have hmem' := (hended.mem_waits rfl).2 hmem
  have hrequested := spares_requested (unbooked_of_lists (ended_lists hlists 0 e) w hmem') 0
  have hshelf := (ended_shelf s 0 e).trans (requested_shelf (s.ended 0 e) 0)
  have hleaves := mem_leavers_aged ((hrequested.mem_waits rfl).2 hmem') hbegun (by rwa [hshelf.control])
  obtain ⟨hline, hout⟩ := countWaits_of_leaver (requested_lists (ended_lists hlists 0 e) 0) hleaves
  obtain ⟨hkept, hout'⟩ := leavesUnlisted_of_countWaits _ _ early late _ hout
  rw [takeBoundary_of_boundary h]
  refine ⟨hkept.trans (hline.trans ?_), hout'⟩
  rw [reported_congr (x := requested _ 0) (s := s) hshelf.control hshelf.shelfTime, (hended.trans hrequested).line]

theorem bringsWaitLimit_of_boundary (h : Boundary s 0 e) (hw : s.waitOf n = some w)
    (hlimit : s.control.params.waitLimit ≤ w.framesWaited + 1) : s.bringsWaitLimit n = true := by
  have hdue := boundaryDue_of_boundary h
  obtain ⟨-, -, -, hslot⟩ := h
  simp [State.bringsWaitLimit, hdue, hw, hlimit, State.nextSlot, ← hslot]

theorem countWaits_source (x : State) (begun : List LineNo) : (x.countWaits begun).source = x.source := by
  obtain ⟨-, -, -, -, -, -, hsource, -⟩ := countWaits_shelf x begun
  exact hsource

theorem landed_source (x : State) (early late : List BusWrite) : (x.landed early late).source = x.source := by
  rw [landed_update]

/-- R113: a frame boundary without a running source and without a load. -/
theorem boundaryTail_of_no_source (hsource : x.source.state ≠ .running)
    (hsame : x.readByte 0x100 = x.control.generationTaken) (begun : List LineNo) (early late : List BusWrite) :
    x.boundaryTail 0 begun early late = (x.countWaits begun).landed early late := by
  have ⟨hbyte, htaken⟩ := generation_congr (countWaits_shelf x begun)
  have hsame' : (x.countWaits begun).readByte 0x100 = (x.countWaits begun).control.generationTaken := by
    rw [hbyte, htaken, hsame]
  rw [boundaryTail_eq, if_pos rfl, reloadCheck_of_same hsame', walkTo_of_nothing]
  left
  rwa [landed_source, countWaits_source]

/-- R113: every entry is counted and judged, and those at the wait limit leave. -/
theorem counted_waits (x : State) : (counted x (x.sched.waits.map WaitEntry.line)).sched.waits =
    (x.sched.waits.map fun w => { w with
      framesWaited := w.framesWaited + 1
      blocking := decide (x.control.params.priorityAge ≤ w.framesWaited + 1) }).filter
        fun w => decide (w.framesWaited < x.control.params.waitLimit) := by
  have haged : (x.aged (x.sched.waits.map WaitEntry.line)).sched.waits = x.sched.waits.map fun w => { w with
      framesWaited := w.framesWaited + 1
      blocking := decide (x.control.params.priorityAge ≤ w.framesWaited + 1) } :=
    List.map_congr_left fun w hw => if_pos (List.mem_map_of_mem hw)
  rw [counted_sched, haged]

/-- R113: an entry that stays below the limit keeps its line. -/
theorem counted_line_of_lt (hnodup : (x.sched.waits.map WaitEntry.line).Nodup) (hw : w ∈ x.sched.waits)
    (hbelow : w.framesWaited + 1 < x.control.params.waitLimit) (begun : List LineNo) :
    (counted x begun).line w.line = x.line w.line := by
  rw [counted_line, if_neg]
  intro hn
  obtain ⟨v, hv, hline, hlimit⟩ := mem_leavers.1 hn
  obtain ⟨u, hu, rfl⟩ := List.mem_map.1 hv
  have huw : u.line = w.line := hline ▸ (by split <;> rfl)
  obtain rfl := List.inj_on_of_nodup_map hnodup hu hw huw
  have hcount : (if u.line ∈ begun then u.counted x.control.params.priorityAge else u).framesWaited ≤
      u.framesWaited + 1 := by
    split
    · exact le_rfl
    · exact Nat.le_succ _
  exact absurd (hlimit.trans hcount) (Nat.not_le.2 hbelow)

/-- The state of a frame boundary at which no frame ends, after its relay requests. -/
theorem toCount_frame (s : State) (e : Nat) : (requested (clocked s 0 e) 0).control = s.control ∧
    (requested (clocked s 0 e) 0).source = s.source ∧ (requested (clocked s 0 e) 0).sched.waits = s.sched.waits ∧
    ((requested (clocked s 0 e) 0).readByte 0x100 = (requested (clocked s 0 e) 0).control.generationTaken ↔
      s.readByte 0x100 = s.control.generationTaken) := by
  have hshelf := requested_shelf (clocked s 0 e) 0
  have ⟨hbyte, htaken⟩ := generation_congr hshelf
  obtain ⟨-, hcontrol, -, -, -, -, hsource, -⟩ := hshelf
  refine ⟨hcontrol, hsource, by rw [requested_sched]; rfl, ?_⟩
  rw [hbyte, htaken]
  exact Iff.rfl

end

/-- Settles O50: an entry at the wait limit by `takeBoundary_of_waitLimit`; without a source the boundary is its
counting, and with one the walk follows, `walkedTo_boundaryTail_of_same`. -/
theorem frameBoundaryCountsWaits : Obligations.FrameBoundaryCountsWaits := by
  refine ⟨fun s n w hw e early late _ h hlists => ⟨fun hlimit => ?_, fun hbelow hsource hnone hsame => ?_⟩, ?_⟩
  · obtain ⟨hline, hout⟩ := takeBoundary_of_waitLimit h hlists hw hlimit early late
    obtain ⟨hb, hw'⟩ := not_or.1 hout
    exact ⟨_, congrArg Host.Outcome.next (if_pos (bringsWaitLimit_of_boundary h hw hlimit)), rfl, hline, hb, hw'⟩
  · have hmem := List.mem_of_find?_eq_some hw
    obtain rfl : w.line = n := by simpa using List.find?_some hw
    have hno : NoFrameEnds s 0 := by simp [NoFrameEnds, hnone]
    obtain ⟨hcontrol, hrunning, hwaits, hgeneration⟩ := toCount_frame s e
    have hnodup := waits_nodup (requested_lists (s := clocked s 0 e) hlists 0)
    have hexec := exec_slotBoundary_of_noFrameEnds h hno early late
    rw [boundaryTail_of_no_source (by rwa [hrunning]) (hgeneration.2 hsame)] at hexec
    refine ⟨_, hexec, ?_, ?_⟩
    · have hcounted := counted_waits (requested (clocked s 0 e) 0)
      rw [hcontrol, hwaits] at hcounted
      rw [landed_sched, countWaits_sched hnodup, hcounted]
    · rw [landed_line, countWaits_line hnodup, counted_line_of_lt hnodup (hwaits ▸ hmem) (by rwa [hcontrol]),
        (spares_requested (by simp [clocked, hnone]) 0).line]
      rfl
  · intro s e early late h hno hlists htones hsame
    obtain ⟨-, -, -, hgeneration⟩ := toCount_frame s e
    exact ⟨_, exec_slotBoundary_of_noFrameEnds h hno early late, walkedTo_boundaryTail_of_same
      (requested_lists (s := clocked s 0 e) hlists 0)
      (requested_toneless (x := clocked s 0 e) (toneless_of_tonesFit hlists htones) 0)
      (hgeneration.2 hsame) _ early late⟩

end Sys2Proof.Machine
end

section
/-! PROOFS. O49: the frame ends of a boundary. -/

namespace Sys2Proof.Machine

open Sys2Proof.Safety

section

variable {s x y : State} {n : LineNo} {c : FrameSlot} {e : Nat} {begun : List LineNo} {early late : List BusWrite}
  {b : Booking} {change : PendingChange}

/-! ### The three ways of a frame end (R110, R111) -/

theorem reachesLimit_iff : b.reachesLimit = true ↔ 0 < b.maxFrames ∧ b.frameCount = b.maxFrames := by
  simp [Booking.reachesLimit]

theorem frameEnd_of_limit (hb : x.bookingOf n = some b) (hlimit : 0 < b.maxFrames ∧ b.frameCount = b.maxFrames)
    (c : FrameSlot) : x.frameEnd c n =
      ((x.dropBookings (· = n)).ringToIdle n).report n (.ringEndNoAnswer b.frameCount) := by
  unfold State.frameEnd
  rw [hb]
  exact if_pos (reachesLimit_iff.2 hlimit)

theorem frameEnd_of_change (hb : x.bookingOf n = some b)
    (hlimit : ¬(0 < b.maxFrames ∧ b.frameCount = b.maxFrames)) (hchange : b.change = some change) (c : FrameSlot) :
    x.frameEnd c n = x.applyChange n c change := by
  unfold State.frameEnd
  rw [hb]
  dsimp only
  rw [if_neg (mt reachesLimit_iff.1 hlimit), hchange]

theorem frameEnd_of_none (hb : x.bookingOf n = some b)
    (hlimit : ¬(0 < b.maxFrames ∧ b.frameCount = b.maxFrames)) (hchange : b.change = none) (c : FrameSlot) :
    x.frameEnd c n = x.updBooking n fun b => { b with framesRung := b.frameCount } := by
  unfold State.frameEnd
  rw [hb]
  dsimp only
  rw [if_neg (mt reachesLimit_iff.1 hlimit), hchange]

/-! ### A frame end that reaches the max frames (R110) -/

theorem frameEnd_of_limit_line (hb : x.bookingOf n = some b)
    (hlimit : 0 < b.maxFrames ∧ b.frameCount = b.maxFrames) (c : FrameSlot) : (x.frameEnd c n).line n =
      reported x (if Busy (x.line n) then guardedLine (x.line n) .idle else movedLine (x.line n) .idle)
        (.ringEndNoAnswer b.frameCount) := by
  have hshelf := (works_ringToIdle (x.dropBookings (· = n)) n).touches.shelf
  rw [frameEnd_of_limit hb hlimit, State.report_line_same, ringToIdle_line]
  exact reported_congr hshelf.control hshelf.shelfTime _ _

theorem frameEnd_of_limit_sched (hb : x.bookingOf n = some b)
    (hlimit : 0 < b.maxFrames ∧ b.frameCount = b.maxFrames) (c : FrameSlot) :
    (x.frameEnd c n).sched = (x.dropBookings (· = n)).sched := by
  rw [frameEnd_of_limit hb hlimit, State.report_sched, ringToIdle_sched]

/-! ### A frame end that applies a pending change (R111) -/

theorem applyChange_of_search {r : FrameSlot} (h : (x.dropBookings (· = n)).search n change.party c = some r) :
    x.applyChange n c change = ((x.dropBookings (· = n)).book n change.party r (readmittedFrames change)).report n
      (.ringBooked (r - c).val r) := by
  unfold State.applyChange
  dsimp only
  rw [h]
  rfl

theorem applyChange_of_busy (h : (x.dropBookings (· = n)).search n change.party c = none)
    (hbusy : Busy (x.line n)) : x.applyChange n c change =
      (x.dropBookings (· = n)).guardWithRelease n (.ringWait .noRoom change.party (readmittedFrames change)) := by
  unfold State.applyChange
  dsimp only
  rw [h]
  exact if_pos (relayBusy_iff.2 hbusy)

theorem applyChange_of_released (h : (x.dropBookings (· = n)).search n change.party c = none)
    (hbusy : ¬Busy (x.line n)) : x.applyChange n c change =
      ((x.dropBookings (· = n)).waitAtTail n change.party (readmittedFrames change)).reportQueued n .noRoom := by
  unfold State.applyChange
  dsimp only
  rw [h]
  exact if_neg fun h => hbusy (relayBusy_iff.1 h)

/-- R111: the booking is re-admitted at the first fit, or waits, through a guard where its relay is busy. -/
theorem readmitted_applyChange (hoff : x.dropBookings (· = n) = { x with sched := without x n b }) (c : FrameSlot)
    (change : PendingChange) : Readmitted c n b change x (x.applyChange n c change) := by
  unfold Readmitted
  dsimp only
  have hsched : (x.dropBookings (· = n)).sched = without x n b := by rw [hoff]
  rw [← hoff, ← hsched]
  cases hsearch : (x.dropBookings (· = n)).search n change.party c with
  | some r =>
    obtain ⟨d, rfl, hfirst⟩ := firstFit_of_search hsearch
    refine ⟨fun d' hd' => ?_, fun hnone => absurd hfirst.1 (hnone _)⟩
    obtain rfl := firstFit_unique hfirst hd'
    rw [applyChange_of_search hsearch, State.report_line_same, book_line, add_sub_cancel_left]
    exact ⟨rfl, rfl⟩
  | none =>
    have hnofit := not_fitsAt_of_search hsearch
    refine ⟨fun d hd => absurd hd.1 (hnofit _), fun _ => ⟨fun hbusy => ?_, fun hbusy => ?_⟩⟩
    · rw [applyChange_of_busy hsearch hbusy, guardWithRelease_line]
      exact ⟨rfl, rfl⟩
    · rw [applyChange_of_released hsearch hbusy, State.reportQueued, State.report_line_same, waitAtTail_line]
      exact ⟨rfl, rfl⟩

/-! ### A frame end that counts (R110) -/

theorem frameEnd_of_none_sched (hnodup : (x.sched.bookings.map Booking.line).Nodup) (hb : x.bookingOf n = some b)
    (hlimit : ¬(0 < b.maxFrames ∧ b.frameCount = b.maxFrames)) (hchange : b.change = none) (c : FrameSlot) :
    (x.frameEnd c n).sched = { x.sched with bookings := x.sched.bookings.map fun a =>
      if a.line = n then { a with framesRung := b.frameCount } else a } := by
  have hbookings : (x.sched.bookings.map fun a => if a.line = n then { a with framesRung := a.frameCount } else a) =
      x.sched.bookings.map fun a => if a.line = n then { a with framesRung := b.frameCount } else a := by
    refine List.map_congr_left fun a ha => ?_
    split
    · next hline =>
      obtain rfl : a = b := Option.some.inj ((hline ▸ find?_of_nodup_lines hnodup ha).symm.trans hb)
      rfl
    · rfl
  rw [frameEnd_of_none hb hlimit hchange, ← hbookings]
  rfl

/-! ### Every frame end is `FrameEnds` (R110) -/

theorem frameEnds_frameEnd (hlists : ListsMatchStates x) (htoneless : Toneless x) (hb : x.bookingOf n = some b)
    (c : FrameSlot) : FrameEnds c n x (x.frameEnd c n) := by
  have hworks := works_frameEnd c x n
  have hline : b.line = n := by simpa using List.find?_some hb
  have hlisted : x.sched.Lists n := .inl (hline ▸ List.mem_map_of_mem (List.mem_of_find?_eq_some hb))
  have hsent := hworks.sent_of_quiet (quiet_frameEnd c (htoneless n hlisted))
  have hoff := dropBookings_eq_without (bookings_nodup hlists) hb
  have hframes : (if b.maxFrames = 0 then min 60 (b.framesRung + 1) else b.framesRung + 1) = b.frameCount := rfl
  refine ⟨b, hb, hworks.touches.others.1, eq_of_shelfKept hworks.touches.shelf hsent, ?_⟩
  dsimp only
  rw [hframes]
  by_cases hlimit : 0 < b.maxFrames ∧ b.frameCount = b.maxFrames
  · rw [if_pos hlimit]
    exact ⟨by rw [frameEnd_of_limit_sched hb hlimit, hoff], frameEnd_of_limit_line hb hlimit c⟩
  · rw [if_neg hlimit]
    split
    · next change hchange =>
      rw [frameEnd_of_change hb hlimit hchange]
      exact readmitted_applyChange hoff c change
    · next hchange =>
      have hline : (x.frameEnd c n).line n = x.line n := by rw [frameEnd_of_none hb hlimit hchange]; rfl
      exact ⟨hline, frameEnd_of_none_sched (bookings_nodup hlists) hb hlimit hchange c⟩

/-- Every booked line's frame ends in its turn, as the others' leave its booking. -/
theorem framesEnd_foldl {ns : List LineNo} (hnodup : ns.Nodup) (hbooked : ∀ n ∈ ns, x.stateOf n = .ringing)
    (hlists : ListsMatchStates x) (htoneless : Toneless x) (c : FrameSlot) :
    FramesEnd c ns x (ns.foldl (State.frameEnd c) x) := by
  induction ns generalizing x with
  | nil => rfl
  | cons n ns ih =>
    obtain ⟨hn, hnodup⟩ := List.nodup_cons.1 hnodup
    have ⟨hb, _⟩ := hlists
    obtain ⟨b, hmem, hline⟩ := List.mem_map.1 ((hb n).2 (hbooked n (by simp)))
    have hbooking : x.bookingOf n = some b := hline ▸ find?_of_nodup_lines (bookings_nodup hlists) hmem
    have hworks := works_frameEnd c x n
    have hconfined : Confined x (x.frameEnd c n) := (Confined.refl x).works hworks
      (.inl (hline ▸ List.mem_map_of_mem hmem)) (quiet_frameEnd c)
    exact ⟨_, frameEnds_frameEnd hlists htoneless hbooking c, ih hnodup (fun m hm => by
      rw [hworks.touches.stateOf fun hmn => hn (hmn ▸ hm)]
      exact hbooked m (by simp [hm])) (frameEnd_lists hlists c n) (hconfined.toneless htoneless)⟩

end
end Sys2Proof.Machine
end

section
/-! PROOFS. O49: a booking at the boundary of its rotation, and every boundary, whole. -/

namespace Sys2Proof.Machine

open Sys2Proof.Safety

section

variable {s x : State} {n : LineNo} {c : FrameSlot} {e : Nat} {begun : List LineNo} {early late : List BusWrite}
  {b : Booking}

/-! ### The lines whose frames end (R110) -/

theorem frameEndLines_eq (s : State) (c : FrameSlot) (e : Nat) : (clocked s c e).frameEndLines c =
    (s.sched.bookings.filter fun b => decide (b.rotation = c ∧ b.firstBurst = true)).map Booking.line :=
  congrArg (List.map Booking.line) (List.filter_congr fun b _ => by simp [Booking.endsAt])

theorem frameEndLines_sublist (s : State) (c : FrameSlot) :
    (s.frameEndLines c).Sublist (s.sched.bookings.map Booking.line) := List.filter_sublist.map _

theorem mem_frameEndLines (hb : b ∈ s.sched.bookings) (hrotation : b.rotation = c) (hfirst : b.firstBurst = true) :
    b.line ∈ s.frameEndLines c :=
  List.mem_map_of_mem (List.mem_filter.2 ⟨hb, by simp [Booking.endsAt, hrotation, hfirst]⟩)

/-- The frame end of a booking at the boundary of its rotation, between those of other lines. -/
theorem exists_frameEnd_ended (hlists : ListsMatchStates s) (hb : s.bookingOf n = some b)
    (hfirst : b.firstBurst = true) (e : Nat) : ∃ y, ListsMatchStates y ∧ ShelfKept (clocked s b.rotation e) y ∧
      y.line n = s.line n ∧ y.bookingOf n = some b ∧
      Spares n (y.frameEnd b.rotation n) (s.ended b.rotation e) := by
  obtain rfl : b.line = n := by simpa using List.find?_some hb
  obtain ⟨y, hspares, hshelf, hlists', hended⟩ := exists_frameEnd (x := clocked s b.rotation e)
    ((bookings_nodup hlists).sublist (frameEndLines_sublist _ b.rotation))
    (mem_frameEndLines (s := clocked s b.rotation e) (List.mem_of_find?_eq_some hb) rfl hfirst) b.rotation hlists
  exact ⟨y, hlists', hshelf, hspares.line, hspares.bookingOf.trans hb, hended⟩

/-! ### A booking that reaches its max frames (R110) -/

theorem ended_of_limit (hlists : ListsMatchStates s) (hb : s.bookingOf n = some b) (hfirst : b.firstBurst = true)
    (hlimit : 0 < b.maxFrames ∧ b.frameCount = b.maxFrames) (e : Nat) :
    (s.ended b.rotation e).line n = reported s (if Busy (s.line n) then guardedLine (s.line n) .idle
        else movedLine (s.line n) .idle) (.ringEndNoAnswer b.maxFrames) ∧
      ¬(s.ended b.rotation e).sched.Lists n := by
  obtain ⟨y, hlists', hshelf, hline, hbooking, hended⟩ := exists_frameEnd_ended hlists hb hfirst e
  have hend := frameEnd_of_limit_line hbooking hlimit b.rotation
  refine ⟨?_, ?_⟩
  · rw [hended.line, hend, hline, hlimit.2, reported_congr (s := s) hshelf.control hshelf.shelfTime]
  · rw [hended.lists]
    refine not_lists_of_stateOf (frameEnd_lists hlists' _ n) ?_
    rw [State.stateOf, hend]
    exact limitedLine_state _

theorem takeBoundary_of_limit (h : Boundary s b.rotation e) (hlists : ListsMatchStates s)
    (hb : s.bookingOf n = some b) (hfirst : b.firstBurst = true)
    (hlimit : 0 < b.maxFrames ∧ b.frameCount = b.maxFrames) (early late : List BusWrite) :
    (s.takeBoundary early late).line n = reported s (if Busy (s.line n) then guardedLine (s.line n) .idle
        else movedLine (s.line n) .idle) (.ringEndNoAnswer b.maxFrames) ∧
      ¬(s.takeBoundary early late).sched.Lists n := by
  obtain ⟨hline, hout⟩ := ended_of_limit hlists hb hfirst hlimit e
  obtain ⟨hkept, hout'⟩ := (confined_requested _ b.rotation).leavesUnlisted.trans
    (leavesUnlisted_boundaryTail _ b.rotation (s.sched.waits.map WaitEntry.line) early late) n hout
  rw [takeBoundary_of_boundary h]
  exact ⟨hkept.trans hline, hout'⟩

theorem bringsRingEnd_of_boundary (h : Boundary s b.rotation e) (hb : s.bookingOf n = some b)
    (hfirst : b.firstBurst = true) (hlimit : 0 < b.maxFrames ∧ b.frameCount = b.maxFrames) :
    s.bringsRingEnd n = true := by
  have hdue := boundaryDue_of_boundary h
  have hlimit' := reachesLimit_iff.2 hlimit
  obtain ⟨-, -, -, hslot⟩ := h
  simp [State.bringsRingEnd, hdue, hb, State.nextSlot, Booking.endsAt, hfirst, ← hslot, hlimit']

/-! ### A booking that goes on ringing (R110) -/

theorem ended_of_count (hlists : ListsMatchStates s) (hb : s.bookingOf n = some b) (hfirst : b.firstBurst = true)
    (hlimit : ¬(0 < b.maxFrames ∧ b.frameCount = b.maxFrames)) (hchange : b.change = none) (e : Nat) :
    { b with framesRung := b.frameCount } ∈ (s.ended b.rotation e).sched.bookings := by
  obtain rfl : b.line = n := by simpa using List.find?_some hb
  obtain ⟨y, hlists', -, -, hbooking, hended⟩ := exists_frameEnd_ended hlists hb hfirst e
  refine (hended.mem_bookings (b := { b with framesRung := b.frameCount }) rfl).2 ?_
  rw [frameEnd_of_none_sched (bookings_nodup hlists') hbooking hlimit hchange]
  exact List.mem_map.2 ⟨b, List.mem_of_find?_eq_some hbooking, if_pos rfl⟩

/-- R112: a booking whose first burst is past is left by the relay requests. -/
theorem mem_requested (hb : b ∈ x.sched.bookings) (hfirst : b.firstBurst = true) (c : FrameSlot) :
    b ∈ (requested x c).sched.bookings := by
  rw [requested_sched]
  refine List.mem_map.2 ⟨b, hb, ?_⟩
  rw [hfirst, Bool.true_or, ← hfirst]

/-- R114: the walk removes no booking. -/
theorem mem_walkTo (hlists : ListsMatchStates x) (hb : b ∈ x.sched.bookings) (c : FrameSlot) :
    b ∈ (x.walkTo c).sched.bookings := by
  unfold State.walkTo
  split
  · obtain ⟨plan, hplan⟩ := exists_planOf_walk (s := x) c (waits_nodup hlists) (unbooked_of_lists hlists)
    rw [hplan.sched]
    exact List.mem_append_left _ hb
  · exact hb

/-- R109: without a load the stages after the relay requests remove no booking. -/
theorem mem_boundaryTail (hlists : ListsMatchStates x) (hb : b ∈ x.sched.bookings)
    (hload : c ≠ 0 ∨ x.readByte 0x100 = x.control.generationTaken) (begun : List LineNo)
    (early late : List BusWrite) : b ∈ (x.boundaryTail c begun early late).sched.bookings := by
  by_cases hc : c = 0
  · subst hc
    have ⟨hbyte, htaken⟩ := generation_congr (countWaits_shelf x begun)
    have hsame : (x.countWaits begun).readByte 0x100 = (x.countWaits begun).control.generationTaken := by
      rw [hbyte, htaken]
      exact hload.resolve_left (not_not_intro rfl)
    rw [boundaryTail_eq, if_pos rfl, reloadCheck_of_same hsame]
    refine mem_walkTo (landed_lists (countWaits_lists hlists begun) early late) ?_ 0
    rwa [landed_sched, countWaits_sched (waits_nodup hlists), counted_sched]
  · rw [boundaryTail_of_ne_zero hc]
    exact mem_walkTo (landed_lists hlists early late) (by rwa [landed_sched]) c

theorem takeBoundary_of_count (h : Boundary s b.rotation e) (hlists : ListsMatchStates s)
    (hb : s.bookingOf n = some b) (hfirst : b.firstBurst = true)
    (hlimit : ¬(0 < b.maxFrames ∧ b.frameCount = b.maxFrames)) (hchange : b.change = none)
    (hload : b.rotation ≠ 0 ∨ s.readByte 0x100 = s.control.generationTaken) (early late : List BusWrite) :
    { b with framesRung := b.frameCount } ∈ (s.takeBoundary early late).sched.bookings := by
  have ⟨hbyte, htaken⟩ := generation_congr
    ((ended_shelf s b.rotation e).trans (requested_shelf (s.ended b.rotation e) b.rotation))
  rw [takeBoundary_of_boundary h]
  refine mem_boundaryTail (requested_lists (ended_lists hlists _ e) _)
    (mem_requested (ended_of_count hlists hb hfirst hlimit hchange e) hfirst _) (hload.imp_right fun hsame => ?_) _ _ _
  rw [hbyte, htaken]
  exact hsame

/-! ### Every boundary (R109) -/

theorem framesEnd_ended (hlists : ListsMatchStates s) (htones : TonesFit s) (c : FrameSlot) (e : Nat) :
    FramesEnd c ((clocked s c e).frameEndLines c) (clocked s c e) (s.ended c e) := by
  have ⟨hringing, _⟩ := hlists
  have hsublist := frameEndLines_sublist (clocked s c e) c
  exact framesEnd_foldl (x := clocked s c e) ((bookings_nodup hlists).sublist hsublist)
    (fun n hn => (hringing n).1 (hsublist.subset hn)) hlists (toneless_of_tonesFit hlists htones) c

theorem ended_loads (hloads : LoadsMatch s) (c : FrameSlot) (e : Nat) : LoadsMatch (s.ended c e) :=
  frameEnds_loads (x := clocked s c e) hloads c _

theorem ended_toneless (hlists : ListsMatchStates s) (htones : TonesFit s) (c : FrameSlot) (e : Nat) :
    Toneless (s.ended c e) :=
  (confined_frameEnds (clocked s c e) c).toneless (toneless_of_tonesFit hlists htones)

end

/-- Settles O49: a booking at its limit by `takeBoundary_of_limit`, one below it by `takeBoundary_of_count`, and every
boundary by `framesEnd_ended` and `boundaryEnds_boundaryTail`. -/
theorem frameEndCountsAndLimits : Obligations.FrameEndCountsAndLimits := by
  refine ⟨fun s n b hb e early late _ h hfirst hlists =>
    ⟨fun hpos hrung => ?_, fun hbelow hchange hload => ?_⟩, ?_⟩
  · have hlimit : 0 < b.maxFrames ∧ b.frameCount = b.maxFrames := ⟨hpos, (if_neg hpos.ne').trans hrung⟩
    obtain ⟨hline, hout⟩ := takeBoundary_of_limit h hlists hb hfirst hlimit early late
    obtain ⟨hbooked, hwaiting⟩ := not_or.1 hout
    exact ⟨_, congrArg Host.Outcome.next (if_pos (bringsRingEnd_of_boundary h hb hfirst hlimit)), rfl, hline,
      hbooked, hwaiting⟩
  · have hlimit : ¬(0 < b.maxFrames ∧ b.frameCount = b.maxFrames) := fun ⟨hpos, hcount⟩ =>
      (hbelow.resolve_left hpos.ne').ne ((if_neg hpos.ne').symm.trans hcount)
    exact ⟨_, rfl, takeBoundary_of_count h hlists hb hfirst hlimit hchange hload early late⟩
  · intro s c e early late h hlists hloads htones
    have hshelf := ended_shelf s c e
    have hrun : (s.ended c e).control.shelf = .running := by
      rw [hshelf.control]
      exact h.1
    refine ⟨s.ended c e, _, congrArg Host.Outcome.next (takeBoundary_of_boundary h early late), ?_,
      boundaryEnds_boundaryTail (ended_lists hlists c e) (ended_loads hloads c e) (ended_toneless hlists htones c e)
        hrun c _ early late⟩
    rw [← frameEndLines_eq s c e]
    exact framesEnd_ended hlists htones c e

end Sys2Proof.Machine
end

section
/-! PROOFS. O52, O53: the ring source: a crossing with its hand-on to the relays, and the expiry of the loss deadline
with its hand-off. -/

namespace Sys2Proof.Machine

open Sys2Proof.Safety

section

variable {s t u : State} {now last : Instant} {st : SourceState} {count halfPeriod : Nat}

/-! ### A line's relay at a crossing and at a failure (R118, R125, R133 to R135) -/

/-- R118: a guard end that is set stays. -/
theorem guardStarted_of_set {l : Line} (h : ∀ g ∈ l.sup.guardRecord, g.guardEnd ≠ none) :
    guardStarted s l now = l := by
  unfold guardStarted
  split
  · refine congrArg (fun r => { l with sup := { l.sup with guardRecord := r } }) (?_ : _ = l.sup.guardRecord)
    cases hguard : l.sup.guardRecord with
    | none => rfl
    | some g =>
      obtain ⟨e, he⟩ := Option.ne_none_iff_exists'.1 (h g hguard)
      obtain ⟨guardEnd, target⟩ := g
      cases he
      rfl
  · rfl

/-- R135: the ring-relay-released notice starts the guard that awaits it. -/
theorem Line.noticeReleased_eq_guardStarted (s : State) (l : Line) (now : Instant) :
    l.noticeReleased now s.control.params.guardTime = guardStarted s l now := by
  unfold Line.noticeReleased
  split
  · next g hstate hguard =>
    split
    · next hclear => simp [guardStarted, hstate, hguard, Option.isNone_iff_eq_none.1 hclear, laterBy]
    · next hset =>
      refine (guardStarted_of_set fun g' hg' => ?_).symm
      cases hguard.symm.trans hg'
      simpa using hset
  · next hother =>
    by_cases hstate : l.sup.state = .ringGuard
    · exact (guardStarted_of_set fun g hg => (hother g hstate hg).elim).symm
    · exact (if_neg hstate).symm

/-- R133: the pending action of a line, applied at a crossing. -/
theorem Line.atCrossing_eq_crossedLine (s : State) (l : Line) (now : Instant) :
    l.atCrossing now s.control.params.guardTime = crossedLine s l now := by
  unfold Line.atCrossing crossedLine
  cases l.rel.pending with
  | none => rfl
  | operate lead => rfl
  | release =>
    refine (Line.noticeReleased_eq_guardStarted s _ now).trans ?_
    cases l.rel.ringRelay <;> rfl

/-- R125, R134: the relay of a line at a failure of the source. -/
theorem Line.atFailure_eq_failedLine (s : State) (l : Line) (now : Instant) :
    l.atFailure now s.control.params.guardTime = failedLine s l now := by
  unfold Line.atFailure failedLine
  simp only [Line.noticeReleased_eq_guardStarted, Option.isSome_iff_ne_none]
  split
  · rfl
  · cases l.rel.pending <;> rfl

theorem guardStarted_rel (s : State) (l : Line) (now : Instant) : (guardStarted s l now).rel = l.rel := by
  unfold guardStarted
  split <;> rfl

theorem failedLine_tone (s : State) (l : Line) (now : Instant) : (failedLine s l now).rel.tone = l.rel.tone := by
  unfold failedLine
  split
  · rw [guardStarted_rel]
    rfl
  · split
    · rfl
    · rfl
    · rw [guardStarted_rel]
      rfl

/-! ### The words of a change of all lines (R130) -/

theorem State.mapLines_sent (s : State) (g : LineNo → Line → Line) : (s.mapLines g).sent =
    (List.finRange 64).reverse.flatMap
      (fun n => relayWords (s.cardPresent n) n (s.line n) (g n (s.line n))) ++ s.sent := by
  simp only [State.mapLines]

/-- R130: a change of all lines sends each present line whose setting changes its one word. -/
theorem settingsSent_mapLines (s : State) (g : LineNo → Line → Line) : SettingsSent s (s.mapLines g) := by
  refine ⟨_, s.mapLines_sent g, fun n => ?_⟩
  rw [filter_allLines (fun m x => relayWords_line) n, State.mapLines_line, relayWords]
  exact if_congr (by rw [Bool.and_eq_true, decide_eq_true_eq, ne_comm]) rfl rfl

/-- What follows without a word, and leaves every setting. -/
theorem settingsSent_then_quiet (h : SettingsSent s t) (hsent : u.sent = t.sent) (hquiet : ∀ n, Quiet n t u) :
    SettingsSent s u := by
  obtain ⟨w, hw, hwords⟩ := h
  exact ⟨w, hsent.trans hw, fun n => by rw [hquiet n, hwords n]⟩

/-! ### The Monitor's judgment of a crossing (R123) -/

theorem judge_of_silent {m : SourceMonitor} (h : m.state = .absent ∨ m.state = .failed) (halfPeriod : Nat)
    (now : Instant) : m.judge halfPeriod now = (.qualifying, 0) := by
  rcases h with h | h <;> simp only [SourceMonitor.judge, h]

theorem judge_of_stays {m : SourceMonitor} (h : m.state = .running) (halfPeriod : Nat) (now : Instant) :
    m.judge halfPeriod now = (.running, m.goodCount) := by
  simp only [SourceMonitor.judge, h]

theorem goodSpacing_iff : goodSpacing halfPeriod last now = true ↔
    halfPeriod * 4000 ≤ 2 * (now - last) ∧ now - last ≤ 2 * (halfPeriod * 4000) := by
  simp [goodSpacing, mul_assoc]

theorem judge_of_badSpacing {m : SourceMonitor} (h : m.state = .qualifying) (hlast : m.lastCrossing = some last)
    (hbad : ¬(halfPeriod * 4000 ≤ 2 * (now - last) ∧ now - last ≤ 2 * (halfPeriod * 4000))) :
    m.judge halfPeriod now = (.qualifying, 0) := by
  simp only [SourceMonitor.judge, h, hlast]
  exact if_neg fun hgood => hbad (goodSpacing_iff.1 hgood)

theorem judge_of_goodSpacing {m : SourceMonitor} (h : m.state = .qualifying) (hlast : m.lastCrossing = some last)
    (hgood : halfPeriod * 4000 ≤ 2 * (now - last) ∧ now - last ≤ 2 * (halfPeriod * 4000)) :
    m.judge halfPeriod now = (if 8 ≤ m.goodCount + 1 then .running else .qualifying, m.goodCount + 1) := by
  simp only [SourceMonitor.judge, h, hlast]
  rw [if_pos (goodSpacing_iff.2 hgood)]
  split <;> rfl

/-! ### A crossing (R123, R133) -/

/-- R123: from `s` to `t` a crossing at `now` is recorded, with this source state and count, and nothing changes
but the source, the lines and the words sent. -/
def Crossed (s : State) (now : Instant) (st : SourceState) (count : Nat) (t : State) : Prop :=
  t.source = { state := st, goodCount := count, lastCrossing := some now,
               lossDeadline := some (now + 5 * (s.control.params.halfPeriod * 4000)) } ∧
    t = { s with source := t.source, lines := t.lines, sent := t.sent }

theorem crossed_of_judge (h : s.source.judge s.control.params.halfPeriod now = (st, count)) :
    s.source.crossed s.control.params.halfPeriod now =
      { state := st, goodCount := count, lastCrossing := some now,
        lossDeadline := some (now + 5 * (s.control.params.halfPeriod * 4000)) } := by
  simp only [SourceMonitor.crossed, h, laterBy, mul_assoc]

/-- R123: a crossing that does not find or make the source RUNNING is not handed on. -/
theorem takeCrossing_of_qualifying (h : s.source.judge s.control.params.halfPeriod now = (.qualifying, count)) :
    Crossed s now .qualifying count (s.takeCrossing now) ∧
      (s.takeCrossing now).lines = s.lines ∧ (s.takeCrossing now).sent = s.sent := by
  have htake : s.takeCrossing now =
      { s with source := s.source.crossed s.control.params.halfPeriod now } :=
    if_neg (by simp [SourceMonitor.crossed, h])
  rw [htake]
  exact ⟨⟨crossed_of_judge h, rfl⟩, rfl, rfl⟩

/-- R123, R133: a crossing that finds or makes the source RUNNING is handed on to the relays. -/
theorem takeCrossing_of_running (h : s.source.judge s.control.params.halfPeriod now = (.running, count)) :
    Crossed s now .running count (s.takeCrossing now) ∧
      (∀ n, (s.takeCrossing now).line n = crossedLine s (s.line n) now) ∧
      SettingsSent s (s.takeCrossing now) := by
  let x : State := { s with source := s.source.crossed s.control.params.halfPeriod now }
  have htake : s.takeCrossing now = x.relayCrossing now := if_pos (by simp [SourceMonitor.crossed, h])
  rw [htake, State.relayCrossing]
  refine ⟨⟨?_, ?_⟩, fun n => ?_, settingsSent_mapLines x _⟩
  · rw [State.mapLines_source]
    exact crossed_of_judge h
  · rw [mapLines_eq]
  · rw [State.mapLines_line]
    exact Line.atCrossing_eq_crossedLine s (s.line n) now

theorem exec_crossing_of_on (h : s.control.shelf ≠ .halted) (us : Fin 1000) :
    exec (.crossing us) s = .next (s.takeCrossing (s.instantAt us)) :=
  congrArg Host.Outcome.next (if_pos (decide_eq_true h))

theorem exec_sourceQualified_of_running (h : s.control.shelf ≠ .halted) (hq : s.source.state = .qualifying)
    {us : Fin 1000}
    (hj : s.source.judge s.control.params.halfPeriod (s.instantAt us) = (.running, count)) :
    exec (.sourceQualified us) s = .next (s.takeCrossing (s.instantAt us)) :=
  congrArg Host.Outcome.next (if_pos (by simp [State.qualifiesAt, State.takesCrossings, h, hq, hj]))

end

/-- Settles O52: each source state by its judgment, which `takeCrossing_of_qualifying` and
`takeCrossing_of_running` carry out. -/
theorem crossingQualifiesSource : Obligations.CrossingQualifiesSource := by
  intro us s
  refine ⟨fun hhalted => congrArg Host.Outcome.next (if_neg (by simp [State.takesCrossings, hhalted])),
    fun hon => ⟨fun hsilent => ?_, fun hrunning => ?_, fun hqualifying last hlast => ?_⟩⟩
  · exact ⟨_, exec_crossing_of_on hon us, takeCrossing_of_qualifying (judge_of_silent hsilent _ _)⟩
  · exact ⟨_, exec_crossing_of_on hon us, takeCrossing_of_running (judge_of_stays hrunning _ _)⟩
  · refine ⟨fun hbad => ?_, fun hgood hcount => ?_, fun hgood hcount => ?_⟩
    · exact ⟨_, exec_crossing_of_on hon us,
        takeCrossing_of_qualifying (judge_of_badSpacing hqualifying hlast hbad)⟩
    · have hjudge := judge_of_goodSpacing hqualifying hlast hgood
      rw [if_neg (by omega)] at hjudge
      exact ⟨_, exec_crossing_of_on hon us, takeCrossing_of_qualifying hjudge⟩
    · have hjudge := judge_of_goodSpacing hqualifying hlast hgood
      rw [hcount, if_pos le_rfl] at hjudge
      exact ⟨_, exec_sourceQualified_of_running hon hqualifying hjudge, exec_crossing_of_on hon us,
        takeCrossing_of_running hjudge⟩

section

variable {s t : State} {now : Instant} {ns : List LineNo}

/-! ### The hand-off of the bookings (R126) -/

theorem foldl_queueDown_shelf (ns : List LineNo) (s : State) : ShelfKept s (ns.foldl State.queueDown s) := by
  induction ns generalizing s with
  | nil => exact .refl s
  | cons n ns ih => exact (works_queueDown s n).touches.shelf.trans (ih _)

/-- R126: each of the lines goes to RING WAIT with its report, and no other changes. -/
theorem foldl_queueDown_line (hnodup : ns.Nodup) (s : State) (n : LineNo) :
    (ns.foldl State.queueDown s).line n =
      if n ∈ ns then
        reported s (movedLine (s.line n) .ringWait) (.ringQueued .sourceDown (waitPosition s.sched.waits n))
      else s.line n := by
  induction ns generalizing s with
  | nil => rfl
  | cons m ns ih =>
    obtain ⟨hm, hnodup⟩ := List.nodup_cons.1 hnodup
    have htouch := (works_queueDown s m).touches
    have hsched : (s.queueDown m).sched = s.sched := rfl
    rw [List.foldl_cons, ih hnodup]
    by_cases hnm : n = m
    · subst hnm
      rw [if_neg hm, if_pos (by simp), State.queueDown, State.reportQueued, State.report_line_same,
        State.updLine_line_same]
      rfl
    · rw [htouch.others.1 n hnm, reported_congr htouch.shelf.control htouch.shelf.shelfTime, hsched]
      simp only [List.mem_cons, hnm, false_or]

theorem quiet_queueDown {n : LineNo} (h : (s.line n).rel.tone = .none) : Quiet n s (s.queueDown n) :=
  (quiet_enterFresh h).report _

/-- R130: lines without a tone go to RING WAIT without a word. -/
theorem foldl_queueDown_quiet (h : ∀ n ∈ ns, (s.line n).rel.tone = .none) :
    (ns.foldl State.queueDown s).sent = s.sent ∧ ∀ m, Quiet m s (ns.foldl State.queueDown s) := by
  induction ns generalizing s with
  | nil => exact ⟨rfl, fun m => .refl m s⟩
  | cons n ns ih =>
    have hworks := works_queueDown s n
    have hquiet : ∀ m, Quiet m s (s.queueDown n) := fun m => by
      by_cases hm : m = n
      · subst hm
        exact quiet_queueDown (h m (by simp))
      · exact congrArg Line.setting (hworks.touches.others.1 m hm)
    obtain ⟨hsent, hrest⟩ := ih (s := s.queueDown n) fun m hm =>
      (tone_of_setting_eq (hquiet m)).trans (h m (by simp [hm]))
    exact ⟨hsent.trans (hworks.sent_of_quiet (hquiet n)), fun m => (hrest m).trans (hquiet m)⟩

/-! ### A failure of the source (R124 to R126) -/

/-- What belongs to no one line stands: the lists, the lines and the words sent alone differ. -/
theorem eq_of_shelfKept_of_sent (h : ShelfKept s t) :
    t = { s with sched := t.sched, lines := t.lines, sent := t.sent } :=
  eq_of_shelfKept (s := { s with sent := t.sent }) h rfl

theorem moved_shelf (s : State) (now : Instant) : ShelfKept s (s.moved now) := by
  simp [ShelfKept, State.moved]

theorem failSource_shelf (s : State) (now : Instant) : ShelfKept s (s.failSource now) := by
  rw [failSource_eq]
  exact (moved_shelf s now).trans (foldl_queueDown_shelf _ _)

/-- R126: the bookings go to the head of the wait list in their order. -/
theorem failSource_sched (s : State) (now : Instant) : (s.failSource now).sched = { s.sched with
    bookings := [], loads := Vector.replicate 12 0
    waits := s.sched.bookings.map Booking.toWait ++ s.sched.waits } := by
  obtain ⟨hsched, -⟩ := foldl_queueDown (s.sched.bookings.map Booking.line) (s.moved now)
  rw [failSource_eq, hsched]
  rfl

/-- R125, R126: each line's relay at the failure, and the lines that were RINGING. -/
theorem failSource_line (hlists : ListsMatchStates s) (now : Instant) (n : LineNo) :
    (s.failSource now).line n = if s.stateOf n = .ringing then
        reported s (movedLine (failedLine s (s.line n) now) .ringWait)
          (.ringQueued .sourceDown (waitPosition (s.failSource now).sched.waits n))
      else failedLine s (s.line n) now := by
  have hshelf := moved_shelf s now
  have ⟨hbooked, _⟩ := hlists
  rw [failSource_sched, failSource_eq, foldl_queueDown_line (bookings_nodup hlists), moved_line,
    Line.atFailure_eq_failedLine, reported_congr hshelf.control hshelf.shelfTime]
  exact if_congr (hbooked n) rfl rfl

/-- R69, R130: the RINGING lines have no tone, so that the failure sends the words of the relays alone. -/
theorem failSource_settingsSent (hlists : ListsMatchStates s) (hrelays : RelaysOnlyRinging s) (now : Instant) :
    SettingsSent s (s.failSource now) := by
  have hmoved : SettingsSent s (s.moved now) :=
    settingsSent_then_quiet (settingsSent_mapLines s fun _ l => l.atFailure now s.control.params.guardTime)
      (by rw [State.moved]) fun n => by rw [Quiet, moved_line, State.mapLines_line]
  have ⟨hbooked, _⟩ := hlists
  obtain ⟨hsent, hquiet⟩ := foldl_queueDown_quiet (s := s.moved now)
    (ns := s.sched.bookings.map Booking.line) fun n hn => by
      obtain ⟨-, htone⟩ := hrelays n
      rw [moved_line, Line.atFailure_eq_failedLine, failedLine_tone]
      exact (htone (.inl ((hbooked n).1 hn))).1
  rw [failSource_eq]
  exact settingsSent_then_quiet hmoved hsent hquiet

/-! ### The command (R124) -/

theorem lossDue_iff : s.lossDue now = true ↔ ∃ e, s.source.lossDeadline = some e ∧ e ≤ now := by
  unfold State.lossDue
  cases s.source.lossDeadline <;> simp

theorem exec_lossDeadlineExpiry_of_due {us : Fin 1000} (h : s.lossDue (s.instantAt us) = true) :
    exec (.lossDeadlineExpiry us) s = .next (s.expireLoss (s.instantAt us)) :=
  congrArg Host.Outcome.next (if_pos h)

theorem expireLoss_of_qualifying (h : s.source.state = .qualifying) (now : Instant) :
    s.expireLoss now = { s with source := .lost .absent } := by
  simp only [State.expireLoss, h]

theorem expireLoss_of_running (h : s.source.state = .running) (now : Instant) :
    s.expireLoss now = { s with source := .lost .failed }.failSource now := by
  simp only [State.expireLoss, h]

/-- R126: the wait entry of a booking: its pending change's party and max frames as stored (log 20), if it has one. -/
theorem toWait_eq_joining (b : Booking) : b.toWait = joining b.line
    (match b.change with | some c => c.party | none => b.party)
    (match b.change with | some c => c.maxFrames | none => b.maxFrames) none := by
  unfold Booking.toWait Booking.waiting
  cases b.change <;> rfl

end

/-- Settles O53: the failure is `failSource`, told by its lists, its lines and its words. -/
theorem lossDeadlineFailsSource : Obligations.LossDeadlineFailsSource := by
  intro us s
  refine ⟨fun e he hle => ?_, fun hearly => congrArg Host.Outcome.next (if_neg fun hdue => ?_)⟩
  · have hexec := exec_lossDeadlineExpiry_of_due (lossDue_iff.2 ⟨e, he, hle⟩)
    refine ⟨fun hqualifying => ?_, fun hrunning hlists => ?_⟩
    · exact hexec.trans (congrArg Host.Outcome.next (expireLoss_of_qualifying hqualifying _))
    · rw [expireLoss_of_running hrunning] at hexec
      let x : State := { s with source := .lost .failed }
      have hshelf : ShelfKept x (x.failSource (s.instantAt us)) := failSource_shelf x _
      have ⟨_, _, _, _, _, _, hsource, _⟩ := hshelf
      have hsched := failSource_sched x (s.instantAt us)
      rw [funext toWait_eq_joining] at hsched
      refine ⟨_, hexec, hsource, hsched, failSource_line (s := x) hlists _,
        fun hrelays => failSource_settingsSent (s := x) hlists hrelays _, ?_⟩
      rw [hsource]
      exact eq_of_shelfKept_of_sent hshelf
  · obtain ⟨e, he, hle⟩ := lossDue_iff.1 hdue
    rcases hearly with hnone | hlater
    · rw [hnone] at he
      cases he
    · exact (hlater e he).not_ge hle

end Sys2Proof.Machine
end

section
/-! PROOFS. O56: what the relays, the guard, the line test and the tone owe to their line's state, and the changes of
one line that keep it. -/

namespace Sys2Proof.Machine

open Sys2Proof.Safety

/-! ### One line's share (R69, R103, R129, R132, R135, R136) -/

/-- What the relays, the guard record, the test record and the tone of a line owe to its state. -/
structure Line.RelaysFit (l : Line) : Prop where
  busy : l.relayBusy = true → l.sup.state = .ringing ∨ l.sup.state = .ringGuard
  guarded : l.sup.guardRecord.isSome = true ↔ l.sup.state = .ringGuard
  awaits : ∀ g ∈ l.sup.guardRecord,
    (g.guardEnd = none → l.rel.pending = .release) ∧ (g.guardEnd ≠ none → l.relayBusy = false)
  testRelay : l.rel.testRelay = true ↔ l.sup.state = .testing
  test : l.rel.test.isSome = true ↔ l.sup.state = .testing
  tone : toneFits l.sup.state l.rel.tone = true

/-- One line's share of `RelaysConsistent`, but for the states in HALTED. -/
structure State.Relays (s : State) (n : LineNo) : Prop where
  fits : (s.line n).RelaysFit
  source : (s.line n).relayBusy = true → s.source.state = .running

/-- R129: RINGING and RING GUARD select no tone and no test relay, which the tones and the tests say already. -/
theorem relaysConsistent_iff {s : State} (hr : RingListsConsistent s) :
    RelaysConsistent s ↔ (∀ n, s.Relays n) ∧ HaltedLinesRest s := by
  obtain ⟨-, -, -, -, hbooked⟩ := hr
  constructor
  · rintro ⟨honly, hsource, hguards, hawaits, htests, htones, hhalted⟩
    refine ⟨fun n => ?_, hhalted⟩
    obtain ⟨hbusy, -⟩ := honly n
    obtain ⟨htestRelay, htest⟩ := htests n
    refine ⟨⟨hbusy, hguards n, hawaits n, htestRelay, htest, htones n⟩, fun hbusy => ?_⟩
    by_contra hoff
    exact absurd hbusy (by simp [(hsource hoff).2 n])
  · rintro ⟨h, hhalted⟩
    refine ⟨fun n => ⟨(h n).fits.busy, fun hst => ?_⟩, fun hoff => ⟨hbooked hoff, fun n => ?_⟩,
      fun n => (h n).fits.guarded, fun n => (h n).fits.awaits, fun n => ⟨(h n).fits.testRelay, (h n).fits.test⟩,
      fun n => (h n).fits.tone, hhalted⟩
    · have htone := (h n).fits.tone
      have htest := (h n).fits.testRelay
      rcases hst with hst | hst <;> change (s.line n).sup.state = _ at hst <;>
        simpa [hst, toneFits] using And.intro htone htest
    · exact Bool.eq_false_iff.2 fun hbusy => hoff ((h n).source hbusy)

/-! ### A line at rest -/

/-- The line has no ring relay at work, no guard and no test. -/
structure Line.AtRest (l : Line) : Prop where
  idle : l.relayBusy = false
  unguarded : l.sup.guardRecord = none
  released : l.rel.testRelay = false
  untested : l.rel.test = none

section

variable {l l' : Line} {st : LineState} {tone : Tone}

theorem Line.AtRest.fits (h : l.AtRest) (hst : l.sup.state ≠ .ringGuard ∧ l.sup.state ≠ .testing)
    (htone : toneFits l.sup.state l.rel.tone = true) : l.RelaysFit := by
  obtain ⟨hguard, htest⟩ := hst
  exact ⟨by simp [h.idle], by simp [h.unguarded, hguard], by simp [h.unguarded], by simp [h.released, htest],
    by simp [h.untested, htest], htone⟩

theorem Line.RelaysFit.unguarded (h : l.RelaysFit) (hst : l.sup.state ≠ .ringGuard) : l.sup.guardRecord = none :=
  Option.not_isSome_iff_eq_none.1 (mt h.guarded.1 hst)

theorem Line.RelaysFit.untested (h : l.RelaysFit) (hst : l.sup.state ≠ .testing) :
    l.rel.testRelay = false ∧ l.rel.test = none :=
  ⟨Bool.eq_false_iff.2 (mt h.testRelay.1 hst), Option.not_isSome_iff_eq_none.1 (mt h.test.1 hst)⟩

theorem Line.RelaysFit.atRest_of_idle (h : l.RelaysFit) (hidle : l.relayBusy = false)
    (hst : l.sup.state ≠ .ringGuard ∧ l.sup.state ≠ .testing) : l.AtRest :=
  have ⟨hreleased, htest⟩ := h.untested hst.2
  ⟨hidle, h.unguarded hst.1, hreleased, htest⟩

/-- A state other than RINGING, RING GUARD and TESTING leaves its line at rest. -/
theorem Line.RelaysFit.atRest (h : l.RelaysFit) (hs : l.sup.state = st)
    (hst : (st ≠ .ringing ∧ st ≠ .ringGuard) ∧ st ≠ .testing) : l.AtRest := by
  subst hs
  obtain ⟨⟨hringing, hguard⟩, htest⟩ := hst
  exact h.atRest_of_idle (Bool.eq_false_iff.2 fun hbusy => (h.busy hbusy).elim hringing hguard) ⟨hguard, htest⟩

/-! ### Changes of one line -/

/-- The relays, the tone, the state and the guard record are as they were. -/
def Line.RelaysAs (l l' : Line) : Prop :=
  l'.rel = l.rel ∧ l'.sup.state = l.sup.state ∧ l'.sup.guardRecord = l.sup.guardRecord

theorem Line.RelaysAs.relayBusy (h : l.RelaysAs l') : l'.relayBusy = l.relayBusy := by
  obtain ⟨hrel, -, -⟩ := h
  rw [Line.relayBusy, hrel, Line.relayBusy]

theorem Line.RelaysFit.congr (h : l.RelaysFit) (ha : l.RelaysAs l') : l'.RelaysFit := by
  have hbusy := ha.relayBusy
  obtain ⟨hrel, hstate, hguard⟩ := ha
  obtain ⟨h1, h2, h3, h4, h5, h6⟩ := h
  rw [← hbusy, ← hstate] at h1
  rw [← hguard, ← hstate] at h2
  rw [← hguard, ← hrel, ← hbusy] at h3
  rw [← hrel, ← hstate] at h4 h5 h6
  exact ⟨h1, h2, h3, h4, h5, h6⟩

/-- The line goes to this state with this tone; its relays, its guard record and its test record stay. -/
def Line.MovesTo (l l' : Line) (st : LineState) (tone : Tone) : Prop :=
  l'.sup.state = st ∧ l'.sup.guardRecord = l.sup.guardRecord ∧ l'.rel = { l.rel with tone := tone }

theorem Line.MovesTo.relayBusy (h : l.MovesTo l' st tone) : l'.relayBusy = l.relayBusy := by
  obtain ⟨-, -, hrel⟩ := h
  rw [Line.relayBusy, hrel, Line.relayBusy]

theorem Line.AtRest.moves (h : l.AtRest) (hm : l.MovesTo l' st tone)
    (hst : (st ≠ .ringGuard ∧ st ≠ .testing) ∧ toneFits st tone = true) : l'.RelaysFit ∧ l'.relayBusy = false := by
  have hidle : l'.relayBusy = false := hm.relayBusy.trans h.idle
  obtain ⟨rfl, hguard, hrel⟩ := hm
  refine ⟨Line.AtRest.fits ⟨hidle, hguard.trans h.unguarded, ?_, ?_⟩ hst.1 ?_, hidle⟩ <;> rw [hrel]
  · exact h.released
  · exact h.untested
  · exact hst.2

/-- R112, R129: in RINGING any ring action may be pending. -/
theorem Line.RelaysFit.pending (h : l.RelaysFit) (hs : l.sup.state = .ringing) (a : RingAction) :
    Line.RelaysFit { l with rel.pending := a } where
  busy _ := .inl hs
  guarded := h.guarded
  awaits g hg := absurd (h.guarded.1 (Option.isSome_of_mem hg)) (by simp [hs])
  testRelay := h.testRelay
  test := h.test
  tone := h.tone

/-- R106, R111: a line that is RINGING is booked anew. -/
theorem Line.RelaysFit.rebooked (h : l.RelaysFit) (hs : l.sup.state = .ringing)
    (hm : l.MovesTo l' .ringing .none) : l'.RelaysFit := by
  obtain ⟨hst, hguard, hrel⟩ := hm
  have htone : l.rel.tone = .none := by simpa [hs, toneFits] using h.tone
  refine h.congr ⟨?_, hst.trans hs.symm, hguard⟩
  rw [hrel, ← htone]

/-- R118, R132: the guard of a line that leaves RINGING awaits its release. -/
theorem Line.RelaysFit.enterGuard (h : l.RelaysFit) (hs : l.sup.state = .ringing) (target : ExitTarget) :
    (l.enterGuard target).releaseAtCrossing.RelaysFit where
  busy _ := .inr rfl
  guarded := iff_of_true rfl rfl
  awaits := by
    rintro g ⟨⟩
    exact ⟨fun _ => rfl, fun hend => absurd rfl hend⟩
  testRelay := iff_of_false (mt h.testRelay.1 (by simp [hs])) (by simp)
  test := iff_of_false (mt h.test.1 (by simp [hs])) (by simp)
  tone := rfl

/-- R134, R135: the ring relay is released with no action pending; the tone, the test, the state and whether there is a
guard stay. -/
structure Line.Frees (l l' : Line) : Prop where
  ringRelay : l'.rel.ringRelay = none
  pending : l'.rel.pending = .none
  tone : l'.rel.tone = l.rel.tone
  testRelay : l'.rel.testRelay = l.rel.testRelay
  test : l'.rel.test = l.rel.test
  state : l'.sup.state = l.sup.state
  guarded : l'.sup.guardRecord.isSome = l.sup.guardRecord.isSome

theorem Line.Frees.relayBusy (hf : l.Frees l') : l'.relayBusy = false := by
  simp [Line.relayBusy, hf.ringRelay, hf.pending]

/-- A guard that awaits no release is one whose end is set. -/
theorem Line.RelaysFit.of_frees (h : l.RelaysFit) (hf : l.Frees l')
    (hends : ∀ g ∈ l'.sup.guardRecord, g.guardEnd ≠ none) : l'.RelaysFit where
  busy hbusy := absurd hbusy (by simp [hf.relayBusy])
  guarded := by rw [hf.guarded, hf.state]; exact h.guarded
  awaits g hg := ⟨fun hend => absurd hend (hends g hg), fun _ => hf.relayBusy⟩
  testRelay := by rw [hf.testRelay, hf.state]; exact h.testRelay
  test := by rw [hf.test, hf.state]; exact h.test
  tone := by rw [hf.tone, hf.state]; exact h.tone

/-- R118, R135: a line whose relay is released at once, and whose guard is told so. -/
theorem Line.RelaysFit.noticeReleased (h : l.RelaysFit) (hf : l.Frees l') (now : Instant) (guardTime : Nat) :
    (l'.noticeReleased now guardTime).RelaysFit ∧ (l'.noticeReleased now guardTime).relayBusy = false := by
  have hidle := hf.relayBusy
  unfold Line.noticeReleased
  split
  · next g hst hg =>
    split
    · have hset : l.Frees
          { l' with sup.guardRecord := some { g with guardEnd := some (laterBy now guardTime) } } :=
        { hf with guarded := by rw [← hf.guarded, hg]; rfl }
      refine ⟨h.of_frees hset fun x hx => ?_, hidle⟩
      cases hx
      simp
    · next hend =>
      refine ⟨h.of_frees hf fun x hx => ?_, hidle⟩
      rw [hg] at hx
      cases hx
      simpa using hend
  · next hno =>
    refine ⟨h.of_frees hf fun g hg => absurd hg (hno g ?_), hidle⟩
    rw [hf.state]
    exact h.guarded.1 (hf.guarded ▸ Option.isSome_of_mem hg)

/-- R129, R132: an operate is pending in RINGING alone. -/
theorem Line.RelaysFit.ringing_of_operate {lead : Lead} (h : l.RelaysFit) (hp : l.rel.pending = .operate lead) :
    l.sup.state = .ringing := by
  have hbusy : l.relayBusy = true := by simp [Line.relayBusy, hp]
  refine (h.busy hbusy).resolve_right fun hs => ?_
  obtain ⟨g, hg⟩ := Option.isSome_iff_exists.1 (h.guarded.2 hs)
  obtain ⟨hopen, hended⟩ := h.awaits g hg
  by_cases hend : g.guardEnd = none
  · simp [hopen hend] at hp
  · simp [hended hend] at hbusy

/-- R133: a crossing applies the pending action of a line. -/
theorem Line.RelaysFit.atCrossing (h : l.RelaysFit) (now : Instant) (guardTime : Nat) :
    (l.atCrossing now guardTime).RelaysFit := by
  unfold Line.atCrossing
  split
  · exact h
  · next lead hp =>
    have hs := h.ringing_of_operate hp
    exact ⟨fun _ => .inl hs, h.guarded, fun g hg => absurd (h.guarded.1 (Option.isSome_of_mem hg)) (by simp [hs]),
      h.testRelay, h.test, h.tone⟩
  · refine (h.noticeReleased ?_ now guardTime).1
    split
    · exact ⟨rfl, rfl, rfl, rfl, rfl, rfl, rfl⟩
    · next hoff => exact ⟨by simpa using hoff, rfl, rfl, rfl, rfl, rfl, rfl⟩

/-- R125, R134: at a failure of the source every relay is released, and every guard told so. -/
theorem Line.RelaysFit.atFailure (h : l.RelaysFit) (now : Instant) (guardTime : Nat) :
    (l.atFailure now guardTime).RelaysFit ∧ (l.atFailure now guardTime).relayBusy = false := by
  unfold Line.atFailure
  split
  · refine h.noticeReleased ?_ now guardTime
    exact ⟨rfl, rfl, rfl, rfl, rfl, rfl, rfl⟩
  · next hoff =>
    have hoff : l.rel.ringRelay = none := by simpa using hoff
    split
    · next hp => exact ⟨h, by simp [Line.relayBusy, hoff, hp]⟩
    · next lead hp =>
      have hs := h.ringing_of_operate hp
      exact ⟨h.pending hs .none, by simp [Line.relayBusy, hoff]⟩
    · refine h.noticeReleased ?_ now guardTime
      exact ⟨hoff, rfl, rfl, rfl, rfl, rfl, rfl⟩

end
end Sys2Proof.Machine
end

section
/-! PROOFS. O56 at a sample and an order: each of them keeps the share of the line it is for. -/

namespace Sys2Proof.Machine

open Sys2Proof.Safety

section

variable {s t : State} {n : LineNo} {f : Line → Line}

/-! ### Changes of one line in the shelf -/

theorem State.Relays.of_line (h : s.Relays n) (ha : (s.line n).RelaysAs (t.line n)) (hsource : t.source = s.source) :
    t.Relays n :=
  ⟨h.fits.congr ha, fun hbusy => hsource ▸ h.source (ha.relayBusy ▸ hbusy)⟩

/-- What is done to all but the lines and the source does not matter. -/
theorem State.Relays.of_lines (h : s.Relays n) (hlines : t.lines = s.lines) (hsource : t.source = s.source) :
    t.Relays n :=
  h.of_line (by rw [State.line_congr hlines]; exact ⟨rfl, rfl, rfl⟩) hsource

theorem Touches.relays_of_ne {m : LineNo} (h : Touches n s t) (hm : m ≠ n) (hr : s.Relays m) : t.Relays m :=
  hr.of_line (by rw [h.others.1 m hm]; exact ⟨rfl, rfl, rfl⟩) h.source

theorem Touches.relays (h : Touches n s t) (hn : s.Relays n → t.Relays n) (hr : ∀ m, s.Relays m) (m : LineNo) :
    t.Relays m := by
  by_cases hm : m = n
  · exact hm ▸ hn (hr n)
  · exact h.relays_of_ne hm (hr m)

theorem State.Relays.updLine (hfit : (f (s.line n)).RelaysFit)
    (hbusy : (f (s.line n)).relayBusy = true → s.source.state = .running) : (s.updLine n f).Relays n := by
  refine ⟨?_, ?_⟩ <;> rw [State.updLine_line_same]
  · exact hfit
  · exact hbusy

/-- A change that leaves the line without a busy relay asks nothing of the source. -/
theorem State.Relays.updLine_idle (h : (f (s.line n)).RelaysFit ∧ (f (s.line n)).relayBusy = false) :
    (s.updLine n f).Relays n :=
  .updLine h.1 fun hbusy => absurd hbusy (by simp [h.2])

theorem State.Relays.keeps (h : s.Relays n) (ha : (s.line n).RelaysAs (f (s.line n))) : (s.updLine n f).Relays n :=
  h.of_line (by rw [State.updLine_line_same]; exact ha) rfl

theorem State.Relays.report (h : s.Relays n) (m : LineNo) (r : Report) : (s.report m r).Relays n := by
  refine h.of_line ?_ rfl
  by_cases hm : n = m
  · subst hm
    rw [State.report_line_same]
    exact ⟨rfl, rfl, rfl⟩
  · rw [State.report_line_ne s r hm]
    exact ⟨rfl, rfl, rfl⟩

theorem State.Relays.atRest {st : LineState} (h : s.Relays n) (hs : s.stateOf n = st)
    (hst : (st ≠ .ringing ∧ st ≠ .ringGuard) ∧ st ≠ .testing) : (s.line n).AtRest := h.fits.atRest hs hst

/-- R67, R69: a line at rest goes to a state that needs no relay, with a tone of that state. -/
theorem State.Relays.moves (st : LineState) (tone : Tone) (h : (s.line n).AtRest)
    (hm : (s.line n).MovesTo (f (s.line n)) st tone)
    (hst : (st ≠ .ringGuard ∧ st ≠ .testing) ∧ toneFits st tone = true) : (s.updLine n f).Relays n :=
  .updLine_idle (h.moves hm hst)

/-! ### The items of a sample (R68) -/

theorem relays_clearLine (h : (s.line n).AtRest) : (s.clearLine n).Relays n :=
  State.Relays.report (.moves .idle .none h ⟨rfl, rfl, rfl⟩ (by decide)) n _

theorem relays_clearDialing (h : s.Relays n) (hs : s.stateOf n = .dialing) : (s.clearDialing n).Relays n :=
  have hcleared : (s.updLine n Line.clearDigits).Relays n := h.keeps ⟨rfl, rfl, rfl⟩
  relays_clearLine (hcleared.atRest (st := .dialing) (by simpa [State.stateOf, Line.clearDigits] using hs) (by decide))

theorem relays_itemClear (h : s.Relays n) : (s.itemClear n).Relays n := by
  unfold State.itemClear
  split
  case h_1 hs | h_3 hs | h_4 hs | h_5 hs | h_6 hs => exact relays_clearLine (h.atRest hs (by decide))
  case h_2 hs => exact relays_clearDialing h hs
  all_goals exact h

theorem relays_pulseDialing (h : s.Relays n) : (s.pulseDialing n).Relays n := by
  unfold State.pulseDialing
  dsimp only
  split
  · exact h
  · split
    · exact (h.keeps ⟨rfl, rfl, rfl⟩).report n _
    · exact h.keeps ⟨rfl, rfl, rfl⟩

theorem relays_gapDialing (h : s.Relays n) : (s.gapDialing n).Relays n := by
  unfold State.gapDialing
  split
  · exact h
  · exact (h.keeps ⟨rfl, rfl, rfl⟩).report n _

theorem relays_startSeizing (h : s.Relays n) (hs : s.stateOf n = .idle) : (s.startSeizing n).Relays n :=
  .moves .seizing .none (h.atRest hs (by decide)) ⟨rfl, rfl, rfl⟩ (by decide)

theorem relays_itemClose (h : s.Relays n) (finished : Option (BreakClass × Nat)) :
    (s.itemClose n finished).Relays n := by
  unfold State.itemClose
  split
  case h_1 hs => exact relays_startSeizing h hs
  case h_2 hs => exact .moves .dialing .none (h.atRest hs (by decide)) ⟨rfl, rfl, rfl⟩ (by decide)
  case h_3 => exact relays_pulseDialing h
  case h_4 => exact relays_gapDialing h
  case h_5 => exact (h.keeps ⟨rfl, rfl, rfl⟩).report n _
  case h_6 => exact h.report n _
  case h_7 => exact relays_itemClear h
  case h_8 => exact h

theorem relays_itemOpen (h : s.Relays n) : (s.itemOpen n).Relays n := by
  unfold State.itemOpen
  split
  · next hs => exact .moves .idle .none (h.atRest hs (by decide)) ⟨rfl, rfl, rfl⟩ (by decide)
  · exact h

theorem relays_qualifySeizure (h : s.Relays n) (hs : s.stateOf n = .seizing) : (s.qualifySeizure n).Relays n :=
  State.Relays.report (.moves .dialTone .dial (h.atRest hs (by decide)) ⟨rfl, rfl, rfl⟩ (by decide)) n _

theorem relays_endDigit (h : s.Relays n) : (s.endDigit n).Relays n := by
  unfold State.endDigit
  dsimp only
  split
  · exact h.keeps ⟨rfl, rfl, rfl⟩
  · split
    · exact h
    · exact (h.keeps ⟨rfl, rfl, rfl⟩).report n _

/-- R115, R117: an answer without a guard, of a line whose ring relay is released. -/
theorem relays_answerNow (h : s.Relays n) (hst : s.stateOf n ≠ .ringGuard ∧ s.stateOf n ≠ .testing)
    (hrelay : (s.line n).rel.ringRelay = none) (how : AnswerKind) (frames : Nat) :
    (s.answerNow n how frames).Relays n := by
  have hidle : Line.relayBusy { s.line n with rel.pending := .none } = false := by simp [Line.relayBusy, hrelay]
  have ⟨hreleased, htest⟩ := h.fits.untested hst.2
  have hrest : Line.AtRest { s.line n with rel.pending := .none } :=
    ⟨hidle, h.fits.unguarded hst.1, hreleased, htest⟩
  refine State.Relays.report (.updLine_idle ?_) n _
  exact hrest.moves (st := .inCall) (tone := .none) ⟨rfl, rfl, rfl⟩ (by decide)

theorem relays_makeRinging (h : s.Relays n) (hs : s.stateOf n = .ringing)
    (hrelay : (s.line n).rel.ringRelay = none) (ms : Nat) : (s.makeRinging n ms).Relays n := by
  have hanswer (how frames) : ((s.dropBookings (· = n)).answerNow n how frames).Relays n :=
    relays_answerNow (s := s.dropBookings (· = n)) (h.of_lines rfl rfl)
      (by simp [State.stateOf, show (s.line n).sup.state = .ringing from hs]) hrelay how frames
  unfold State.makeRinging
  split
  · exact h
  · split
    · exact hanswer _ _
    · split
      · exact hanswer _ _
      · exact h

theorem relays_makeWaiting (h : s.Relays n) (hs : s.stateOf n = .ringWait)
    (hrelay : (s.line n).rel.ringRelay = none) (ms : Nat) : (s.makeWaiting n ms).Relays n := by
  unfold State.makeWaiting
  split
  · exact relays_answerNow (s := s.dropWaits (· = n)) (h.of_lines rfl rfl)
      (by simp [State.stateOf, show (s.line n).sup.state = .ringWait from hs]) hrelay _ _
  · exact h

theorem relays_itemMake (h : s.Relays n) (hrelay : s.stateOf n = .ringing → (s.line n).rel.ringRelay = none)
    (ms : Nat) (fresh : Bool) : (s.itemMake n ms fresh).Relays n := by
  unfold State.itemMake
  split
  case h_1 hs =>
    split
    · exact h
    · exact relays_startSeizing h hs
  case h_2 hs =>
    split
    · exact relays_qualifySeizure h hs
    · exact h
  case h_3 =>
    split
    · exact relays_endDigit h
    · exact h
  case h_4 hs => exact relays_makeRinging h hs (hrelay hs) ms
  case h_5 hs =>
    have hidle := (h.atRest hs (by decide)).idle
    exact relays_makeWaiting h hs (by simpa [Line.relayBusy] using (Bool.or_eq_false_iff.1 hidle).1) ms
  all_goals exact h

/-- R93, R116, R127: a trip leads to RING GUARD while the source is RUNNING, by its line's share of the ring lists. -/
theorem relays_itemTrip (h : s.Relays n) (hr : s.Rings n) (now : Instant) : (s.itemTrip n now).Relays n := by
  unfold State.itemTrip
  split
  · next hs _ =>
    have hguard := h.fits.enterGuard hs .inCall
    refine State.Relays.report (.updLine (s := s.dropBookings (· = n)) ?_ fun _ => hr.sourceRunning hs) n _
    dsimp only
    split
    · refine (hguard.noticeReleased ?_ now _).1
      exact ⟨rfl, rfl, rfl, rfl, rfl, rfl, rfl⟩
    · exact hguard
  · exact h

theorem relays_takeEvent (h : s.Relays n) (hr : s.Rings n) (now : Instant) {e : Option LineEvent}
    (he : e = some .learned → s.stateOf n = .learning) : (s.takeEvent n now e).Relays n := by
  match e with
  | none => exact h
  | some .opened => exact relays_itemOpen h
  | some (.closed finished) => exact relays_itemClose h finished
  | some .trip => exact relays_itemTrip h hr now
  | some .learned =>
    exact .moves (f := fun l => l.enter .idle .none) .idle .none (h.atRest (he rfl) (by decide)) ⟨rfl, rfl, rfl⟩
      (by decide)

theorem relays_takeClear (h : s.Relays n) (clear : Option Nat) : (s.takeClear n clear).Relays n := by
  match clear with
  | none => exact h
  | some _ => exact relays_itemClear h

theorem relays_takeElapsed (h : s.Relays n) (fresh : Bool) {e : Option Elapsed}
    (hrelay : ∀ ms, e = some (.makeFor ms) → s.stateOf n = .ringing → (s.line n).rel.ringRelay = none) :
    (s.takeElapsed n fresh e).Relays n := by
  match e with
  | none => exact h
  | some (.breakFor _) => exact h
  | some (.makeFor ms) => exact relays_itemMake h (hrelay ms rfl) ms fresh

/-! ### A make sample in RINGING finds the ring relay released (R39) -/

theorem Classifier.stage2_elapsed {c : Classifier} {m : Mode} {p : Profile} {v : Nat} {k : BitVec 32} {e : Elapsed}
    (h : (c.stage2 m p v k).2.elapsed = some e) : m = .watch ∨ m = .watchUpdate := by
  cases m with
  | watch => exact .inl rfl
  | watchUpdate => exact .inr rfl
  | burst =>
    simp only [Classifier.stage2, Classifier.tripWatch] at h
    split at h
    · split at h <;> cases h
    · cases h
  | learn =>
    simp only [Classifier.stage2, Classifier.learnSample] at h
    split at h <;> cases h
  | transient | off | ignore => cases h

theorem Line.RelaysFit.released_of_hooked {l : Line} {now : Instant} (h : l.RelaysFit)
    (hm : l.mode now = .watch ∨ l.mode now = .watchUpdate) : l.rel.ringRelay = none := by
  by_contra hne
  have hbusy : l.relayBusy = true := by simp [Line.relayBusy, Option.isSome_iff_ne_none, hne]
  rcases h.busy hbusy with hs | hs
  · simp only [Line.mode, hs, Option.isSome_iff_ne_none.2 hne] at hm
    split at hm <;> simp at hm
  · simp [Line.mode, hs] at hm

/-- R68: a close or an open before the make operates no ring relay: it leaves the setting, or takes the line out of
RINGING. -/
theorem released_after_event (hfit : (s.line n).RelaysFit) (hrelay : (s.line n).rel.ringRelay = none) (now : Instant)
    {e : Option LineEvent} (he : (∃ f, e = some (.closed f)) ∨ e = none ∨ e = some .opened)
    (hs : (s.takeEvent n now e).stateOf n = .ringing) : ((s.takeEvent n now e).line n).rel.ringRelay = none := by
  have of_quiet {u : State} (hq : Quiet n s u) : (u.line n).rel.ringRelay = none :=
    (congrArg RelaySetting.ringRelay hq).trans hrelay
  rcases he with ⟨f, rfl⟩ | rfl | rfl
  · rcases itemClose_cases f hfit.tone with ⟨hq, -⟩ | ⟨-, hst | hst⟩
    · exact of_quiet hq
    · exact absurd (hst.symm.trans hs) (by decide)
    · exact absurd (hst.symm.trans hs) (by decide)
  · exact hrelay
  · exact of_quiet (quiet_itemOpen hfit.tone).1

/-- R40: stages 2 and 3 of a sample, but for the ignore mode and the deadline. -/
theorem relays_afterElapsed (h : s.Relays n) (hr : s.Rings n) (v : Nat) : (s.afterElapsed n v).Relays n := by
  have h2 : (s.afterStage2 n v).Relays n := h.keeps ⟨rfl, rfl, rfl⟩
  have hr2 : (s.afterStage2 n v).Rings n := hr.updLine (.inl rfl)
  have hevent : (s.afterEvent n v).Relays n := relays_takeEvent h2 hr2 _ fun he => by
    rw [State.stateOf, State.afterStage2, State.updLine_line_same]
    exact Line.learning_of_mode (Classifier.stage2_learned he)
  refine relays_takeElapsed (relays_takeClear hevent _) _ fun ms hms hs => ?_
  have hrelay : ((s.afterStage2 n v).line n).rel.ringRelay = none := by
    rw [State.afterStage2, State.updLine_line_same]
    exact h.fits.released_of_hooked (Classifier.stage2_elapsed hms)
  have released (hc : (s.handOn n v).clear = none) (he : (∃ f, (s.handOn n v).event = some (.closed f)) ∨
      (s.handOn n v).event = none ∨ (s.handOn n v).event = some .opened) :
      ((s.afterClear n v).line n).rel.ringRelay = none := by
    have hclear : s.afterClear n v = s.afterEvent n v := congrArg (State.takeClear (s.afterEvent n v) n) hc
    change (s.afterClear n v).stateOf n = .ringing at hs
    rw [hclear] at hs ⊢
    exact released_after_event h2.fits hrelay _ he hs
  rcases Classifier.stage2_handOn (s.line n).cls (s.modeOf n) (s.profileOf n) v (s.line n).sampleIndex with
    ⟨-, -, he⟩ | ⟨he, hc⟩ | ⟨he, hc | ⟨b, hb⟩⟩
  · exact absurd (hms.symm.trans he) (by simp)
  · exact released hc (.inl he)
  · exact released hc (.inr he)
  · exact absurd (hms.symm.trans hb) (by simp)

/-! ### The deadline, the guard and the test (R67, R118, R137) -/

theorem relays_expireToHowler (h : (s.line n).AtRest) (kind : DeadlineKind) : (s.expireToHowler n kind).Relays n :=
  State.Relays.report (.moves .howler .howler h ⟨rfl, rfl, rfl⟩ (by decide)) n _

theorem relays_expire (h : s.Relays n) (kind : DeadlineKind) : (s.expire n kind).Relays n := by
  unfold State.expire
  split
  case h_1 hs | h_2 hs | h_3 hs => exact relays_expireToHowler (h.atRest hs (by decide)) _
  case h_4 hs =>
    exact State.Relays.report (.moves .lockout .none (h.atRest hs (by decide)) ⟨rfl, rfl, rfl⟩ (by decide)) n _
  case h_5 => exact h.keeps ⟨rfl, rfl, rfl⟩

theorem relays_judgeDeadline (h : s.Relays n) : (s.judgeDeadline n).Relays n := by
  unfold State.judgeDeadline
  split
  · exact relays_expire h _
  · exact h

/-- R118, R135: a guard that is over has had its end set, so its relay is released and stands so. -/
theorem Line.RelaysFit.idle_of_guardOver {l : Line} {now : Instant} {target : ExitTarget} (h : l.RelaysFit)
    (hg : l.guardOver now = some target) : l.relayBusy = false := by
  unfold Line.guardOver at hg
  split at hg
  · next g _ hrecord =>
    split at hg
    · next e he => exact (h.awaits g hrecord).2 (by simp [he])
    · cases hg
  · cases hg

theorem relays_endGuard (h : s.Relays n) (hs : s.stateOf n = .ringGuard) (hidle : (s.line n).relayBusy = false)
    (target : ExitTarget) : (s.endGuard n target).Relays n := by
  have ⟨hreleased, htest⟩ := h.fits.untested (by simp [show (s.line n).sup.state = .ringGuard from hs])
  have hrest : Line.AtRest { s.line n with sup.guardRecord := none } := ⟨hidle, rfl, hreleased, htest⟩
  have hto (st : LineState) (hst : (st ≠ .ringGuard ∧ st ≠ .testing) ∧ toneFits st .none = true) :
      (s.updLine n fun l => l.guardTo st).Relays n :=
    .updLine_idle (hrest.moves ⟨rfl, rfl, rfl⟩ hst)
  have hwait := hto .ringWait (by decide)
  unfold State.endGuard
  split
  · exact .updLine_idle (hrest.moves (st := .inCall) (tone := .none) ⟨rfl, rfl, rfl⟩ (by decide))
  · exact hto .idle (by decide)
  · refine State.Relays.report (hwait.of_lines ?_ ?_) n _ <;> rfl
  · refine State.Relays.report (hwait.of_lines ?_ ?_) n _ <;> rfl

theorem relays_finishTest (h : s.Relays n) (hs : s.stateOf n = .testing) (sum : Nat) :
    (s.finishTest n sum).Relays n := by
  have hst : (s.line n).sup.state = .testing := hs
  have hidle : (s.line n).relayBusy = false :=
    Bool.eq_false_iff.2 fun hbusy => by rcases h.fits.busy hbusy with hs' | hs' <;> simp [hs'] at hst
  have hrest : Line.AtRest { s.line n with rel.testRelay := false, rel.test := none } :=
    ⟨hidle, h.fits.unguarded (by simp [hst]), rfl, rfl⟩
  refine State.Relays.report (.updLine_idle ?_) n _
  exact hrest.moves (st := .idle) (tone := .none) ⟨rfl, rfl, rfl⟩ (by decide)

/-- R137: a measuring sample leaves the test record in its place. -/
theorem Line.RelaysFit.measured {l : Line} (h : l.RelaysFit) (hs : l.sup.state = .testing) (r : TestRecord) :
    Line.RelaysFit { l with rel.test := some r } :=
  { h with test := iff_of_true rfl hs }

theorem relays_ignoredSample (h : s.Relays n) (now : Instant) (v : Nat) : (s.ignoredSample n now v).Relays n := by
  unfold State.ignoredSample
  split
  · next hg => exact relays_endGuard h (Line.guardOver_state hg) (h.fits.idle_of_guardOver hg) _
  · split
    · next r hm =>
      split
      · exact relays_finishTest h (Line.measured_state hm) _
      · exact .updLine (h.fits.measured (Line.measured_state hm) r) h.source
    · exact h

/-! ### A sample arrival (R40) -/

theorem relays_afterItems (h : s.Relays n) (hr : s.Rings n) (v : Nat) : (s.afterItems n v).Relays n := by
  unfold State.afterItems
  split
  · exact relays_ignoredSample h _ v
  · exact h
  all_goals exact relays_afterElapsed h hr v

theorem relays_updateBaseline (h : s.Relays n) (v tc : Nat) : (s.updateBaseline n v tc).Relays n := by
  unfold State.updateBaseline
  split
  · exact h.keeps ⟨rfl, rfl, rfl⟩
  · exact h

theorem relays_checkLeakage (h : s.Relays n) : (s.checkLeakage n).Relays n := by
  unfold State.checkLeakage
  dsimp only
  split
  · split
    · exact (h.keeps ⟨rfl, rfl, rfl⟩).report n _
    · exact h
  · split
    · exact (h.keeps ⟨rfl, rfl, rfl⟩).report n _
    · exact h

theorem relays_stages (h : s.Relays n) (hr : s.Rings n) (v : Nat) : (s.stages n v).Relays n := by
  have h3 : (s.afterStage3 n v).Relays n := relays_judgeDeadline (relays_afterItems h hr v)
  have h4 : (s.afterStage4 n v).Relays n := by
    unfold State.afterStage4
    split
    · exact relays_updateBaseline h3 _ _
    · exact h3
  unfold State.stages
  split
  · exact relays_checkLeakage h4
  · exact h4

theorem relays_arrival (h : s.Relays n) (hr : s.Rings n) (a : Option Byte) : (s.arrival n a).Relays n := by
  unfold State.arrival
  split
  · exact relays_stages (h.keeps ⟨rfl, rfl, rfl⟩) (hr.updLine (.inl rfl)) _
  · exact h

/-! ### Leaving RINGING, and joining the ring lists (R101, R106, R108 to R111) -/

/-- R101, R118: a line whose relay is busy asks for its release from RING GUARD. -/
theorem relays_guardWithRelease (h : s.Relays n) (hs : s.stateOf n = .ringing) (hbusy : (s.line n).relayBusy = true)
    (target : ExitTarget) : (s.guardWithRelease n target).Relays n :=
  .updLine (h.fits.enterGuard hs target) fun _ => h.source hbusy

theorem relays_ringToIdle (h : s.Relays n) (hs : s.stateOf n = .ringing) : (s.ringToIdle n).Relays n := by
  unfold State.ringToIdle
  split
  · next hbusy => exact relays_guardWithRelease h hs hbusy .idle
  · next hbusy =>
    have hst : (s.line n).sup.state = .ringing := hs
    exact .moves .idle .none (h.fits.atRest_of_idle (Bool.eq_false_iff.2 hbusy) (by simp [hst]))
      ⟨rfl, rfl, rfl⟩ (by decide)

/-- R106, R114: a line at rest is booked. -/
theorem relays_book (h : (s.line n).AtRest) (p : Fin 4) (r : FrameSlot) (maxFrames : Nat) :
    (s.book n p r maxFrames).Relays n :=
  State.Relays.moves (s := s.addBooking (s.newBooking n p r maxFrames)) .ringing .none h ⟨rfl, rfl, rfl⟩ (by decide)

/-- R106, R111: a line at rest joins the wait list. -/
theorem relays_waitAtTail (h : (s.line n).AtRest) (p : Fin 4) (maxFrames : Nat) :
    (s.waitAtTail n p maxFrames).Relays n :=
  State.Relays.moves (s := s.joinTail (newWait n p maxFrames none)) .ringWait .none h ⟨rfl, rfl, rfl⟩ (by decide)

/-! ### The orders (R82 to R85, R105 to R108, R136) -/

/-- R29, R129: a line at OUT OF SERVICE has everything released. -/
theorem Line.outOfService_fits (l : Line) : l.outOfService.RelaysFit ∧ l.outOfService.relayBusy = false :=
  ⟨Line.AtRest.fits ⟨rfl, rfl, rfl, rfl⟩ (by simp) rfl, rfl⟩

theorem relays_orderService (h : s.Relays n) (value : Byte) : (s.orderService n value).state.Relays n := by
  unfold State.orderService
  split
  · unfold State.orderServiceOff
    split
    · exact h
    · exact State.Relays.updLine_idle (s := (s.dropBookings (· = n)).dropWaits (· = n)) (Line.outOfService_fits _)
  · split
    · unfold State.orderServiceOn
      split
      · next hs =>
        split
        · exact .moves (f := Line.enterLearning) .learning .none (h.atRest hs (by decide)) ⟨rfl, rfl, rfl⟩
            (by decide)
        · exact h
      · exact h
    · exact h

theorem relays_orderConfigure (h : s.Relays n) (c : ConfigBytes) : (s.orderConfigure n c).state.Relays n := by
  unfold State.orderConfigure
  split
  · exact h
  · split
    · exact h.keeps (f := fun l => l.installConfig c) ⟨rfl, rfl, rfl⟩
    · next hs =>
      dsimp only
      by_cases hprofile : profileGiven c = (s.line n).sup.profile
      · exact h.keeps (by rw [if_pos hprofile]; exact ⟨rfl, rfl, rfl⟩)
      · exact .moves .learning .none (h.atRest hs (by decide)) (by rw [if_neg hprofile]; exact ⟨rfl, rfl, rfl⟩)
          (by decide)
    · exact h

theorem relays_orderConnect (h : s.Relays n) : (s.orderConnect n).state.Relays n := by
  unfold State.orderConnect
  split
  case h_1 hs | h_2 hs =>
    exact .moves (f := fun l => l.enterFresh .inCall .none) .inCall .none (h.atRest hs (by decide)) ⟨rfl, rfl, rfl⟩
      (by decide)
  all_goals exact h

theorem relays_releaseLine (h : (s.line n).AtRest) {tone : Tone} (htone : toneFits .cleardown tone = true) :
    (s.releaseLine n tone).Relays n := by
  unfold State.releaseLine
  split
  · exact .moves .cleardown tone h ⟨rfl, rfl, rfl⟩ ⟨by decide, htone⟩
  · exact .moves .idle .none h ⟨rfl, rfl, rfl⟩ (by decide)

theorem relays_orderRelease (h : s.Relays n) (tone : Byte) : (s.orderRelease n tone).state.Relays n := by
  have htone : toneFits .cleardown (if tone = 0 then .busy else .none) = true := by split <;> rfl
  unfold State.orderRelease
  split
  · exact h
  · dsimp only
    split
    case h_1 hs | h_2 hs | h_3 hs => exact relays_releaseLine (h.atRest hs (by decide)) htone
    all_goals exact h

theorem relays_ringIdle (h : (s.line n).AtRest) (p : Fin 4) (maxFrames : Nat) (o : OrderOutcome) :
    (s.ringIdle n p maxFrames o).state.Relays n := by
  unfold State.ringIdle
  split
  · split
    · exact relays_book h p _ maxFrames
    · exact relays_waitAtTail h p maxFrames
  · exact relays_waitAtTail h p maxFrames

theorem relays_orderRing (h : s.Relays n) (party maxFrames : Byte) :
    (s.orderRing n party maxFrames).state.Relays n := by
  unfold State.orderRing
  split
  · unfold State.ringParty
    split
    · exact h
    · split
      · exact h
      · next hstates =>
        split
        · exact h
        · dsimp only
          split
          · exact h.of_lines rfl rfl
          · exact h.of_lines rfl rfl
          · next hb hw =>
            have hs : s.stateOf n = .idle := by_contra fun hi => hstates ⟨hi, hb, hw⟩
            exact relays_ringIdle (h.atRest hs (by decide)) _ _ _
  · exact h

/-- R108: a STOP retargets a guard, and leaves its end. -/
theorem Line.RelaysFit.stopped {l : Line} (h : l.RelaysFit) :
    Line.RelaysFit { l with sup.guardRecord := l.sup.guardRecord.map GuardRecord.stopped } where
  busy := h.busy
  guarded := by simpa using h.guarded
  awaits g hg := by
    obtain ⟨x, hx, rfl⟩ := Option.map_eq_some_iff.1 hg
    have hend : x.stopped.guardEnd = x.guardEnd := by
      unfold GuardRecord.stopped
      split <;> rfl
    rw [hend]
    exact h.awaits x hx
  testRelay := h.testRelay
  test := h.test
  tone := h.tone

theorem relays_orderStop (h : s.Relays n) : (s.orderStop n).state.Relays n := by
  unfold State.orderStop
  split
  case h_1 hs => exact relays_ringToIdle (s := s.dropBookings (· = n)) (h.of_lines rfl rfl) hs
  case h_2 hs =>
    exact .moves (s := s.dropWaits (· = n)) (f := fun l => l.enterFresh .idle .none) .idle .none
      (h.atRest hs (by decide)) ⟨rfl, rfl, rfl⟩ (by decide)
  case h_3 =>
    exact .updLine (f := fun l => { l with sup.guardRecord := l.sup.guardRecord.map GuardRecord.stopped })
      h.fits.stopped h.source
  case h_4 => exact h

/-- R136: a test begins with the test relay operated and the record made. -/
theorem Line.AtRest.startTest {l : Line} (h : l.AtRest) (now : Instant) :
    (l.startTest now).RelaysFit ∧ (l.startTest now).relayBusy = false :=
  have hidle : (l.startTest now).relayBusy = false := h.idle
  ⟨⟨by simp [hidle], by simp [Line.startTest, h.unguarded], by simp [Line.startTest, h.unguarded],
    iff_of_true rfl rfl, iff_of_true rfl rfl, rfl⟩, hidle⟩

theorem relays_orderTest (h : s.Relays n) (now : Instant) : (s.orderTest n now).state.Relays n := by
  unfold State.orderTest
  split
  · exact h
  · split
    · exact h
    · next hs =>
      exact .updLine_idle (f := fun l => l.startTest now) ((h.atRest (not_not.1 hs) (by decide)).startTest now)

theorem relays_answer (h : s.Relays n) (o : Order) (now : Instant) : (s.answer n o now).state.Relays n := by
  match o with
  | .note => exact h
  | .service value => exact relays_orderService h value
  | .configure bytes => exact relays_orderConfigure h bytes
  | .ring party maxFrames => exact relays_orderRing h party maxFrames
  | .stop => exact relays_orderStop h
  | .connect => exact relays_orderConnect h
  | .release tone => exact relays_orderRelease h tone
  | .test => exact relays_orderTest h now
  | .badKind _ => exact h

theorem State.Relays.reports (h : s.Relays n) (rs : List Report) :
    (rs.foldl (fun s r => s.report n r) s).Relays n := by
  induction rs generalizing s with
  | nil => exact h
  | cons r rs ih => exact ih (h.report n r)

/-- R13: what is recorded of an order leaves the relays. -/
theorem State.Relays.taken {a : Answer} (h : a.state.Relays n) (kind seq : Byte) : (a.taken n kind seq).Relays n :=
  State.Relays.reports (State.Relays.report (h.keeps ⟨rfl, rfl, rfl⟩) n _) _

end
end Sys2Proof.Machine
end

section
/-! PROOFS. O56, carried through the slot boundary, the ring source, the shelf and its cards, and every command. -/

namespace Sys2Proof.Machine

open Sys2Proof.Safety

section

variable {s t : State} {n : LineNo}

/-! ### Operations of several lines -/

/-- Operations of distinct lines, each of which is as its operation asks (`p`) until its turn comes. -/
theorem relays_foldl_of_lines {f : State → LineNo → State} (p : Line → Prop) (hf : ∀ s n, Touches n s (f s n))
    (hn : ∀ s n, p (s.line n) → s.Relays n → (f s n).Relays n) {ns : List LineNo} (hnodup : ns.Nodup)
    (hp : ∀ n ∈ ns, p (s.line n)) (h : ∀ n, s.Relays n) (n : LineNo) : (ns.foldl f s).Relays n := by
  induction ns generalizing s with
  | nil => exact h n
  | cons m ns ih =>
    obtain ⟨hm, hnodup⟩ := List.nodup_cons.1 hnodup
    refine ih hnodup (fun x hx => ?_) ((hf s m).relays (hn s m (hp m (by simp))) h)
    rw [(hf s m).others.1 x fun e => hm (e ▸ hx)]
    exact hp x (by simp [hx])

theorem State.Relays.mapLines {g : LineNo → Line → Line} (hfit : (g n (s.line n)).RelaysFit)
    (hbusy : (g n (s.line n)).relayBusy = true → s.source.state = .running) : (s.mapLines g).Relays n := by
  refine ⟨?_, ?_⟩ <;> rw [State.mapLines_line]
  · exact hfit
  · rwa [State.mapLines_source]

/-! ### Frame ends and relay requests (R110 to R112) -/

/-- R111: a line that is RINGING is booked anew, whatever its relay does. -/
theorem relays_rebook (h : s.Relays n) (hs : s.stateOf n = .ringing) (p : Fin 4) (r : FrameSlot) (maxFrames : Nat) :
    (s.book n p r maxFrames).Relays n :=
  .updLine (s := s.addBooking (s.newBooking n p r maxFrames)) (f := fun l => l.enterFresh .ringing .none)
    (h.fits.rebooked hs ⟨rfl, rfl, rfl⟩) h.source

theorem relays_applyChange (h : s.Relays n) (hs : s.stateOf n = .ringing) (c : FrameSlot) (change : PendingChange) :
    (s.applyChange n c change).Relays n := by
  have hst : (s.line n).sup.state = .ringing := hs
  have hdrop : (s.dropBookings (· = n)).Relays n := h.of_lines rfl rfl
  unfold State.applyChange
  dsimp only
  split
  · exact State.Relays.report (relays_rebook hdrop hs _ _ _) n _
  · split
    · next hbusy => exact relays_guardWithRelease hdrop hs hbusy _
    · next hbusy =>
      exact State.Relays.report (relays_waitAtTail
        (hdrop.fits.atRest_of_idle (Bool.eq_false_iff.2 hbusy) (by simp [hst])) _ _) n _

theorem relays_frameEnd (c : FrameSlot) (s : State) (n : LineNo) (hs : s.stateOf n = .ringing) (h : s.Relays n) :
    (s.frameEnd c n).Relays n := by
  unfold State.frameEnd
  split
  · exact h
  · split
    · exact State.Relays.report (relays_ringToIdle (s := s.dropBookings (· = n)) (h.of_lines rfl rfl) hs) n _
    · split
      · exact relays_applyChange h hs c _
      · exact h.of_lines rfl rfl

theorem relays_frameEnds (hlists : ListsMatchStates s) (h : ∀ n, s.Relays n) (c : FrameSlot) (n : LineNo) :
    (s.frameEnds c).Relays n := by
  have hsub : (s.frameEndLines c).Sublist (s.sched.bookings.map Booking.line) := List.filter_sublist.map _
  exact relays_foldl_of_lines (·.sup.state = .ringing) (fun s n => (works_frameEnd c s n).touches) (relays_frameEnd c)
    ((bookings_nodup hlists).sublist hsub) (fun m hm => (hlists.1 m).1 (hsub.subset hm)) h n

/-- R93, R112, R127: only the relays of booked lines are asked for, which are RINGING with the source RUNNING. -/
theorem relays_relayRequests (hr : RingListsConsistent s) (h : ∀ n, s.Relays n) (c : FrameSlot) (n : LineNo) :
    (s.relayRequests c).Relays n := by
  have hring := ringListsConsistent_iff.1 hr n
  have hmap : (s.mapLines (s.requestLine c)).Relays n := by
    refine .mapLines ?_ ?_ <;> unfold State.requestLine <;> split
    · next b hb =>
      obtain ⟨a, ha⟩ := b.request_eq c (s.line n)
      rw [ha]
      exact (h n).fits.pending (hring.ringing hb) a
    · exact (h n).fits
    · next b hb => exact fun _ => hring.sourceRunning (hring.ringing hb)
    · exact (h n).source
  refine hmap.of_lines ?_ ?_ <;> rw [relayRequests_mapLines]

/-! ### Frame boundary work (R113, R100 to R102) -/

theorem relays_endWait (s : State) (n : LineNo) (hs : s.stateOf n = .ringWait) (h : s.Relays n) :
    (s.endWait n).Relays n :=
  State.Relays.report (.moves (s := s.dropWaits (· = n)) .idle .none (h.atRest hs (by decide)) ⟨rfl, rfl, rfl⟩
    (by decide)) n _

theorem relays_countWaits (hlists : ListsMatchStates s) (h : ∀ n, s.Relays n) (begun : List LineNo) (n : LineNo) :
    (s.countWaits begun).Relays n := by
  have hwaits : (s.aged begun).sched.waits.map WaitEntry.line = s.sched.waits.map WaitEntry.line :=
    map_line_map (fun e => by split <;> rfl) _
  have hst (m : LineNo) (hm : m ∈ (s.aged begun).leavers) : (s.aged begun).stateOf m = .ringWait :=
    (hlists.2.1 m).1 (hwaits ▸ mem_waits_of_leavers hm)
  rw [countWaits_eq]
  exact relays_foldl_of_lines (·.sup.state = .ringWait) (fun s n => (works_endWait s n).touches) relays_endWait
    (leavers_nodup (hwaits ▸ waits_nodup hlists)) hst (fun m => (h m).of_lines rfl rfl) n

/-- R101, R102: a line whose booking is evicted goes to RING GUARD or RING WAIT. -/
theorem relays_evictLine {b : Booking} (h : s.Relays b.line) (hs : s.stateOf b.line = .ringing) (mark : EvictionMark) :
    (s.evictLine b mark).Relays b.line := by
  have hst : (s.line b.line).sup.state = .ringing := hs
  unfold State.evictLine
  dsimp only
  split
  · next hbusy => exact relays_guardWithRelease h hs hbusy _
  · next hbusy =>
    exact State.Relays.moves (s := s.joinEvicted _ mark) .ringWait .none
      (h.fits.atRest_of_idle (Bool.eq_false_iff.2 hbusy) (by simp [hst])) ⟨rfl, rfl, rfl⟩ (by decide)

theorem relays_evictLines {bs : List Booking} (hnodup : (bs.map Booking.line).Nodup)
    (hst : ∀ b ∈ bs, s.stateOf b.line = .ringing) (h : ∀ n, s.Relays n) (rank : Nat) (n : LineNo) :
    (s.evictLines bs rank).Relays n := by
  induction bs generalizing s rank with
  | nil => exact h n
  | cons b bs ih =>
    obtain ⟨hb, hnodup⟩ := List.nodup_cons.1 hnodup
    have ht := (works_evictLine s b { time := s.shelfTime, rank := rank }).touches
    refine ih hnodup (fun x hx => ?_) (ht.relays (fun hr => relays_evictLine hr (hst b (by simp)) _) h) (rank + 1)
    rw [ht.stateOf fun e => hb (e ▸ List.mem_map_of_mem hx)]
    exact hst x (by simp [hx])

theorem relays_reportEvicted (h : ∀ n, s.Relays n) (ns : List LineNo) (n : LineNo) :
    (s.reportEvicted ns).Relays n := by
  unfold State.reportEvicted
  induction ns generalizing s with
  | nil => exact h n
  | cons m ns ih =>
    refine ih fun x => ?_
    dsimp only
    split
    · exact (h x).report m _
    · exact h x

theorem relays_evict (hlists : ListsMatchStates s) (h : ∀ n, s.Relays n) (n : LineNo) : s.evict.Relays n := by
  have hsub : s.evicted.Sublist s.sched.bookings := List.drop_sublist _ _
  rw [evict_eq]
  refine relays_reportEvicted (relays_evictLines (s := s.struck) ((bookings_nodup hlists).sublist (hsub.map _))
    (fun b hb => ?_) (fun m => (h m).of_lines rfl rfl) 1) _ n
  exact (hlists.1 b.line).1 (List.mem_map_of_mem (hsub.subset hb))

theorem relays_landed (h : s.Relays n) (early late : List BusWrite) : (s.landed early late).Relays n :=
  h.of_lines (by simp [State.landed]) (by simp [State.landed])

theorem relays_reloadCheck (hlists : ListsMatchStates s) (h : ∀ n, s.Relays n) (early late : List BusWrite)
    (n : LineNo) : (s.reloadCheck early late).Relays n := by
  unfold State.reloadCheck
  split
  · exact relays_landed (h n) early late
  · have hloaded (m : LineNo) : (s.loadMeeting early late).Relays m :=
      (h m).of_line (by rw [loadMeeting_line]; exact ⟨rfl, rfl, rfl⟩) (loadMeeting_source s early late)
    refine State.Relays.of_lines (relays_evict ?_ hloaded n) rfl rfl
    simpa [ListsMatchStates, State.stateOf, WaitEntry.judged, Function.comp_def] using hlists

/-! ### The walk, and the boundary (R109, R114) -/

/-- R114: an entry of a line in RING WAIT is booked, and its operate may be asked for while the source is RUNNING. -/
theorem relays_walkBook {e : WaitEntry} (h : s.Relays e.line) (hs : s.stateOf e.line = .ringWait)
    (hsource : s.source.state = .running) (c r : FrameSlot) : (s.walkBook c e r).Relays e.line := by
  have hbook := State.Relays.report (relays_book (s := s.dropWaits (· = e.line)) (h.atRest hs (by decide)) e.party r
    e.maxFrames) e.line (.ringBooked (r - c).val r)
  unfold State.walkBook
  dsimp only
  split
  · refine State.Relays.updLine (s := State.updBooking _ e.line _) ?_ fun _ => hsource
    exact hbook.fits.pending (by simp [State.book]) _
  · exact hbook

theorem relays_walk (c : FrameSlot) {es : List WaitEntry} (hnodup : (es.map WaitEntry.line).Nodup)
    (hst : ∀ e ∈ es, s.stateOf e.line = .ringWait) (hsource : s.source.state = .running) (h : ∀ n, s.Relays n)
    (n : LineNo) : (State.walk c es s).Relays n := by
  induction es generalizing s with
  | nil => exact h n
  | cons e es ih =>
    obtain ⟨he, hnodup⟩ := List.nodup_cons.1 hnodup
    unfold State.walk
    split
    · next r _ =>
      have ht := (works_walkBook s c e r).touches
      refine ih hnodup (fun x hx => ?_) (ht.source ▸ hsource)
        (ht.relays (fun hr => relays_walkBook hr (hst e (by simp)) hsource c r) h)
      rw [ht.stateOf fun h => he (h ▸ List.mem_map_of_mem hx)]
      exact hst x (by simp [hx])
    · split
      · exact h n
      · exact ih hnodup (fun x hx => hst x (by simp [hx])) hsource h

theorem relays_boundaryTail (hr : RingListsConsistent s) (h : ∀ n, s.Relays n) (c : FrameSlot) (begun : List LineNo)
    (early late : List BusWrite) (n : LineNo) : (s.boundaryTail c begun early late).Relays n := by
  have hwalk {t : State} (hr : RingListsConsistent t) (ht : ∀ n, t.Relays n) :
      (if t.source.state = .running then State.walk c t.sched.waits t else t).Relays n := by
    split
    · next hsource =>
      have ⟨_, _, ⟨_, hw, _, hnodup⟩, _⟩ := hr
      exact relays_walk c hnodup (fun e he => (hw _).1 (List.mem_map_of_mem he)) hsource ht n
    · exact ht n
  unfold State.boundaryTail
  dsimp only
  split
  · have hcounted := ringLists_countWaits hr begun
    have ⟨_, _, hlists, _⟩ := hr
    have ⟨_, _, hlists', _⟩ := hcounted
    exact hwalk (ringLists_reloadCheck hcounted early late)
      (relays_reloadCheck hlists' (relays_countWaits hlists h begun) early late)
  · exact hwalk (ringLists_landed hr early late) fun m => relays_landed (h m) early late

theorem relays_boundary (hr : RingListsConsistent s) (h : ∀ n, s.Relays n) (first : Bool) (time : Nat)
    (early late : List BusWrite) (n : LineNo) : (s.boundary first time early late).Relays n := by
  have hclock : RingListsConsistent { s with
      sched.slot := s.nextSlot first, sched.nextBoundary := some (time + Config.slotMs) } := hr
  have hends := ringLists_frameEnds hclock (s.nextSlot first)
  have hrequests := ringLists_relayRequests hends (s.nextSlot first)
  have ⟨_, _, hlists, _⟩ := hclock
  unfold State.boundary
  exact relays_boundaryTail hrequests (relays_relayRequests hends
    (relays_frameEnds hlists (fun m => (h m).of_lines rfl rfl) _) _) _ _ early late n

/-! ### The ring source (R123 to R126) -/

/-- R127, R133: a crossing is handed on while the source is RUNNING; otherwise no relay was busy before it. -/
theorem relays_takeCrossing (h : s.Relays n) (now : Instant) : (s.takeCrossing now).Relays n := by
  unfold State.takeCrossing
  dsimp only
  split
  · next hrun => exact .mapLines (h.fits.atCrossing now _) fun _ => hrun
  · exact ⟨h.fits, fun hbusy => judge_of_running (h.source hbusy) _ now⟩

theorem relays_queueDown (s : State) (n : LineNo) (h : (s.line n).AtRest) : (s.queueDown n).Relays n :=
  State.Relays.report (.moves .ringWait .none h ⟨rfl, rfl, rfl⟩ (by decide)) n _

/-- R125, R126: at a failure every relay is released, whatever source state goes with it, and the lines of the bookings
go to RING WAIT. -/
theorem relays_failSource (hlists : ListsMatchStates s) (h : ∀ n, (s.line n).RelaysFit) (now : Instant) (n : LineNo) :
    (s.failSource now).Relays n := by
  have hmoved (m : LineNo) : ((s.moved now).line m).RelaysFit ∧ ((s.moved now).line m).relayBusy = false := by
    rw [moved_line]
    exact (h m).atFailure now _
  have hrest (m : LineNo) (hm : m ∈ s.sched.bookings.map Booking.line) : ((s.moved now).line m).AtRest := by
    have hst : (s.line m).sup.state = .ringing := (hlists.1 m).1 hm
    refine (hmoved m).1.atRest_of_idle (hmoved m).2 ?_
    rw [moved_line, Line.atFailure_state, hst]
    decide
  rw [failSource_eq]
  exact relays_foldl_of_lines Line.AtRest (fun s n => (works_queueDown s n).touches)
    (fun s n hrest _ => relays_queueDown s n hrest) (bookings_nodup hlists) hrest
    (fun m => ⟨(hmoved m).1, fun hbusy => absurd hbusy (by simp [(hmoved m).2])⟩) n

theorem relays_expireLoss (hlists : ListsMatchStates s) (h : ∀ n, s.Relays n) (now : Instant) (n : LineNo) :
    (s.expireLoss now).Relays n := by
  unfold State.expireLoss
  split
  · next hq => exact ⟨(h n).fits, fun hbusy => absurd ((h n).source hbusy) (by simp [hq])⟩
  · exact relays_failSource (s := { s with source := .lost .failed }) hlists (fun m => (h m).fits) now n
  · exact h n
  · exact h n

/-! ### The shelf and its cards (R16 to R19, R29, R33) -/

theorem State.Relays.of_atRest (h : (t.line n).AtRest) (hst : t.stateOf n ≠ .ringGuard ∧ t.stateOf n ≠ .testing)
    (htone : toneFits (t.stateOf n) (t.line n).rel.tone = true) : t.Relays n :=
  ⟨h.fits hst htone, fun hbusy => absurd hbusy (by simp [h.idle])⟩

theorem relays_haltShelf (s : State) (n : LineNo) : s.haltShelf.Relays n := by
  have hst : s.haltShelf.stateOf n = .outOfService ∨ s.haltShelf.stateOf n = .idle := by
    rw [State.stateOf, haltShelf_line]
    exact (s.line n).halted_state
  refine .of_atRest ?_ (by rcases hst with hst | hst <;> simp [hst]) ?_
  · rw [haltShelf_line]
    exact ⟨rfl, rfl, rfl, rfl⟩
  · rw [haltShelf_line]
    rcases hst with hst | hst <;> rw [hst] <;> rfl

theorem relays_softReset (s : State) (n : LineNo) : s.softReset.Relays n := by
  have hline := (softReset_line s n).trans (congrArg (Line.softReset · (s.takenCount n)) (haltShelf_line s n))
  have hst : s.softReset.stateOf n = .outOfService := congrArg (·.sup.state) hline
  refine .of_atRest ?_ (by simp [hst]) ?_
  · rw [hline]
    exact ⟨rfl, rfl, rfl, rfl⟩
  · rw [hst, hline]
    rfl

/-- R16, R18: a start finds every line at rest. -/
theorem relays_startShelf (h : ∀ n, s.Relays n) (hrest : ∀ n, s.stateOf n = .idle ∨ s.stateOf n = .outOfService)
    (early late : List BusWrite) (n : LineNo) : (s.startShelf early late).Relays n := by
  have hline : (s.startShelf early late).line n = (s.line n).startRun :=
    (State.line_congr (s := (s.loadMeeting early late).mapLines fun _ l => l.startRun)
      (t := s.startShelf early late) rfl n).trans (by simp)
  have hat : (s.line n).AtRest := by
    rcases hrest n with hs | hs <;> exact (h n).atRest hs (by decide)
  have hstart : (s.line n).startRun.RelaysFit ∧ (s.line n).startRun.relayBusy = false := by
    unfold Line.startRun
    split
    · exact ⟨(h n).fits, hat.idle⟩
    · exact hat.moves (st := .learning) (tone := .none) ⟨rfl, rfl, rfl⟩ (by decide)
  rw [← hline] at hstart
  exact ⟨hstart.1, fun hbusy => absurd hbusy (by simp [hstart.2])⟩

theorem relays_loseCard (h : s.Relays n) (c : CardNo) : (s.loseCard c).Relays n := by
  have hsource : (s.loseCard c).source = s.source := by rw [loseCard_eq]
  by_cases hc : cardOf n = c
  · have hout := (s.line n).outOfService_fits
    have has : (s.line n).outOfService.RelaysAs ((s.loseCard c).line n) := by
      rw [loseCard_line, if_pos hc]
      unfold Line.cardLost
      dsimp only
      split <;> exact ⟨rfl, rfl, rfl⟩
    exact ⟨hout.1.congr has, fun hbusy => absurd hbusy (by simp [has.relayBusy, hout.2])⟩
  · exact h.of_line (by rw [loseCard_line, if_neg hc]; exact ⟨rfl, rfl, rfl⟩) hsource

theorem relays_returnCard (h : s.Relays n) (c : CardNo) : (s.returnCard c).Relays n := by
  refine h.of_line ?_ (by simp [State.returnCard])
  rw [returnCard_line]
  split <;> exact ⟨rfl, rfl, rfl⟩

/-! ### The states in HALTED (R18, R24) -/

/-- A shelf that is not HALTED owes its lines no rest. -/
theorem haltedLinesRest_of_on (h : t.control.shelf ≠ .halted) : HaltedLinesRest t := fun hoff => absurd hoff h

theorem haltedLinesRest_congr (h : HaltedLinesRest s) (hshelf : t.control.shelf = s.control.shelf)
    (hst : ∀ n, t.stateOf n = s.stateOf n) : HaltedLinesRest t := fun hoff n => by
  rw [hst n]
  exact h (hshelf ▸ hoff) n

/-- An order is taken, and a sample delivered, only while the shelf is not HALTED. -/
theorem Touches.haltedLinesRest (h : Touches n s t) (hon : s.control.shelf ≠ .halted) : HaltedLinesRest t :=
  haltedLinesRest_of_on (by rwa [h.shelf.control])

theorem haltedLinesRest_landed (h : HaltedLinesRest s) (early late : List BusWrite) :
    HaltedLinesRest (s.landed early late) :=
  haltedLinesRest_congr h (by simp [State.landed]) fun n => by simp [State.landed, State.stateOf]

theorem haltedLinesRest_failSource (hlists : ListsMatchStates s) (h : HaltedLinesRest s) (now : Instant) :
    HaltedLinesRest (s.failSource now) := fun hoff n => by
  rw [(steady_failSource s now).shelf] at hoff
  have hrest := h hoff n
  rw [failSource_stateOf hlists, if_neg (by rcases hrest with hs | hs <;> simp [hs])]
  exact hrest

/-! ### Both parts together, at each operation of the shelf -/

/-- The lines' shares of `RelaysConsistent`, and the states in HALTED. -/
structure State.RelaysHold (s : State) : Prop where
  lines : ∀ n, s.Relays n
  halted : HaltedLinesRest s

theorem relaysHold_of_lines (h : s.RelaysHold) (hlines : t.lines = s.lines) (hsource : t.source = s.source)
    (hcontrol : t.control = s.control) : t.RelaysHold :=
  ⟨fun n => (h.lines n).of_lines hlines hsource,
    haltedLinesRest_congr h.halted (congrArg _ hcontrol) fun n => congrArg (·.sup.state) (State.line_congr hlines n)⟩

theorem relaysHold_landed (h : s.RelaysHold) (early late : List BusWrite) : (s.landed early late).RelaysHold :=
  ⟨fun n => relays_landed (h.lines n) early late, haltedLinesRest_landed h.halted early late⟩

theorem relaysHold_taken (hr : ∀ n, s.Relays n) (hon : s.control.shelf ≠ .halted) (n : LineNo) (o : Order)
    (now : Instant) (kind seq : Byte) : ((s.answer n o now).taken n kind seq).RelaysHold :=
  have ht := ((works_answer s n o now).taken kind seq).touches
  ⟨ht.relays (fun h => (relays_answer h o now).taken kind seq) hr, ht.haltedLinesRest hon⟩

theorem relaysHold_visit (h : s.RelaysHold) (now : Instant) (early late : List BusWrite) :
    (s.visit now early late).RelaysHold := by
  have hread : (s.readTakenCount s.visitPointer).RelaysHold := by
    have hsame (n : LineNo) : (s.line n).RelaysAs ((s.readTakenCount s.visitPointer).line n) := by
      rw [readTakenCount_line]
      split
      · next hn => rw [hn]; exact ⟨rfl, rfl, rfl⟩
      · exact ⟨rfl, rfl, rfl⟩
    exact ⟨fun n => (h.lines n).of_line (hsame n) rfl, haltedLinesRest_congr h.halted rfl fun n => (hsame n).2.1⟩
  have hlanded : (((s.readTakenCount s.visitPointer).writes early).writes late).RelaysHold :=
    relaysHold_landed hread early late
  have hmail : State.RelaysHold (if (s.readTakenCount s.visitPointer).control.shelf = .running then
      (s.readTakenCount s.visitPointer).consistentRead s.visitPointer now early late
      else (s.readTakenCount s.visitPointer).landed early late) := by
    split
    · next hrun =>
      unfold State.consistentRead
      dsimp only
      split
      · exact relaysHold_taken hlanded.lines (by simp [hrun]) _ _ now _ _
      · exact hlanded
    · exact hlanded
  exact relaysHold_of_lines hmail rfl rfl rfl

theorem relaysHold_boundary (hr : RingListsConsistent s) (h : ∀ n, s.Relays n) (hrun : s.control.shelf = .running)
    (first : Bool) (time : Nat) (early late : List BusWrite) : (s.boundary first time early late).RelaysHold := by
  refine ⟨relays_boundary hr h first time early late, haltedLinesRest_of_on ?_⟩
  rw [(steady_boundary s first time early late).shelf]
  simp [hrun]

theorem relaysHold_takeBoundary (hr : RingListsConsistent s) (h : s.RelaysHold) (early late : List BusWrite) :
    (s.takeBoundary early late).RelaysHold := by
  unfold State.takeBoundary
  split
  · next t ht =>
    have hrun : s.control.shelf = .running := by
      by_contra hoff
      simp [State.boundaryDue, hoff] at ht
    exact relaysHold_boundary hr h.lines hrun false t early late
  · exact relaysHold_landed h early late

theorem relaysHold_enterRunning (hr : RingListsConsistent s) (h : s.RelaysHold) (early late : List BusWrite) :
    (s.enterRunning early late).RelaysHold := by
  obtain ⟨hloads, hwithin, hlists, -, hsource⟩ := hr
  exact relaysHold_boundary (s := { s with control.shelf := .running, control.startingEnd := none })
    ⟨hloads, hwithin, hlists, fun hoff => absurd rfl hoff, hsource⟩ (fun n => (h.lines n).of_lines rfl rfl) rfl true _
    early late

theorem relaysHold_takeCrossing (h : s.RelaysHold) (hon : s.control.shelf ≠ .halted) (now : Instant) :
    (s.takeCrossing now).RelaysHold := by
  refine ⟨fun n => relays_takeCrossing (h.lines n) now, haltedLinesRest_of_on ?_⟩
  unfold State.takeCrossing
  dsimp only
  split
  · rwa [(steady_relayCrossing _ now).shelf]
  · exact hon

theorem relaysHold_expireLoss (hlists : ListsMatchStates s) (h : s.RelaysHold) (now : Instant) :
    (s.expireLoss now).RelaysHold := by
  refine ⟨relays_expireLoss hlists h.lines now, ?_⟩
  unfold State.expireLoss
  split
  · exact h.halted
  · exact haltedLinesRest_failSource (s := { s with source := .lost .failed }) hlists h.halted now
  · exact h.halted
  · exact h.halted

theorem relaysHold_haltShelf (s : State) : s.haltShelf.RelaysHold :=
  ⟨relays_haltShelf s, fun _ n => by
    rw [State.stateOf, haltShelf_line]
    exact (s.line n).halted_state.symm⟩

theorem relaysHold_softReset (s : State) : s.softReset.RelaysHold :=
  ⟨relays_softReset s, fun _ n => .inr (by rw [State.stateOf, softReset_line]; rfl)⟩

theorem relaysHold_writeControl (h : s.RelaysHold) (run ie : Bool) (early late : List BusWrite) :
    (s.writeControl run ie early late).RelaysHold := by
  have hbits : State.RelaysHold { s with port.run := run, port.interruptEnable := ie } :=
    relaysHold_of_lines h rfl rfl rfl
  unfold State.writeControl
  dsimp only
  split
  · split
    · next hhalted =>
      exact ⟨relays_startShelf hbits.lines (hbits.halted hhalted) early late,
        haltedLinesRest_of_on (by simp [State.startShelf])⟩
    · exact relaysHold_landed hbits early late
  · split
    · exact hbits
    · exact relaysHold_haltShelf _

theorem relaysHold_loseCard (h : s.RelaysHold) (c : CardNo) : (s.loseCard c).RelaysHold := by
  refine ⟨fun n => relays_loseCard (h.lines n) c, fun hoff n => ?_⟩
  have hshelf : (s.loseCard c).control = s.control := by rw [loseCard_eq]
  rw [State.stateOf, loseCard_line]
  split
  · exact .inr (Line.cardLost_state _ _ _)
  · exact h.halted (by rwa [hshelf] at hoff) n

theorem relaysHold_returnCard (h : s.RelaysHold) (c : CardNo) : (s.returnCard c).RelaysHold := by
  refine ⟨fun n => relays_returnCard (h.lines n) c,
    haltedLinesRest_congr h.halted (by simp [State.returnCard]) fun n => ?_⟩
  rw [State.stateOf, returnCard_line]
  split <;> rfl

/-! ### Every command -/

/-- The commands of one line: nothing, an order taken while the shelf is RUNNING, or a sample arrival. -/
theorem exec_line_relaysHold {i : Instr} (hi : lineOf i = some n) (hr : RingListsConsistent s) (h : s.RelaysHold) :
    ∃ t, exec i s = .next t ∧ t.RelaysHold := by
  cases ho : orderRow i with
  | some row =>
    obtain ⟨m, kind, seq⟩ := row
    obtain ⟨o, now, hexec⟩ := exec_orderRow ho s
    rcases s.order_cases m kind seq (s.answer m o now) with hs | ⟨htakes, ht⟩
    · exact ⟨s, hexec.trans (congrArg _ hs), h⟩
    · have ⟨hrun, _⟩ := takesOrder_iff.1 htakes
      exact ⟨_, hexec.trans (congrArg _ ht), relaysHold_taken h.lines (by simp [hrun]) m o now kind seq⟩
  | none =>
    rcases exec_sampleRow hi ho s with ⟨_, _, -, hexec⟩ | ⟨due, a, hexec⟩
    · exact ⟨s, hexec, h⟩
    · by_cases hsampled : Sampled s n
      · have ⟨hon, _⟩ := hsampled
        have ht := touches_arrival s n a
        rcases s.arrivalIf_cases due n a with hs | ha
        · exact ⟨s, hexec.trans (congrArg _ hs), h⟩
        · exact ⟨_, hexec.trans (congrArg _ ha),
            ht.relays (fun hn => relays_arrival hn (ringListsConsistent_iff.1 hr n) a) h.lines, ht.haltedLinesRest hon⟩
      · exact ⟨s, hexec.trans (congrArg _ (arrivalIf_of_not_sampled hsampled due a)), h⟩

theorem exec_relaysHold (i : Instr) (hr : RingListsConsistent s) (h : s.RelaysHold) :
    ∃ t, exec i s = .next t ∧ t.RelaysHold := by
  have guarded {t u : State} (b : Bool) (ht : t.RelaysHold) (hu : u.RelaysHold) :
      (if b then t else u).RelaysHold := by
    split
    · exact ht
    · exact hu
  have hboundary (early late : List BusWrite) := relaysHold_takeBoundary hr h early late
  have hlanded (early late : List BusWrite) := relaysHold_landed h early late
  have ⟨_, _, hlists, _⟩ := hr
  cases i
  case powerOn seated =>
    have ⟨hlines, hhalted⟩ := (relaysConsistent_iff (powerOn_ringLists seated)).1 (powerOn_relays seated)
    exact ⟨_, rfl, relaysHold_of_lines (s := State.powerOn seated) ⟨hlines, hhalted⟩ rfl rfl rfl⟩
  case shelfTimeTick | shelfStatusRead | attentionRegisterRead | registerWriteIgnored | presenceChange =>
    exact ⟨_, rfl, relaysHold_of_lines h rfl rfl rfl⟩
  case workMemoryWrite w => exact ⟨_, rfl, hlanded [w] []⟩
  case run ie early late => exact ⟨_, rfl, relaysHold_writeControl h true ie early late⟩
  case halt ie => exact ⟨_, rfl, relaysHold_writeControl h false ie [] []⟩
  case softReset => exact ⟨_, rfl, relaysHold_softReset s⟩
  case interruptEnable v => exact ⟨_, rfl, relaysHold_writeControl h _ v [] []⟩
  case startingEnd early late =>
    exact ⟨_, rfl, guarded _ (relaysHold_enterRunning hr h early late) (hlanded early late)⟩
  case orderIntakeVisit us early late => exact ⟨_, rfl, relaysHold_visit h _ early late⟩
  case cardLost c => exact ⟨_, rfl, guarded _ (relaysHold_loseCard h c) h⟩
  case cardBack c => exact ⟨_, rfl, guarded _ (relaysHold_returnCard h c) h⟩
  case slotBoundary early late => exact ⟨_, rfl, hboundary early late⟩
  case ringEndNoAnswer n early late => exact ⟨_, rfl, guarded _ (hboundary early late) (hlanded early late)⟩
  case ringEndWaitLimit n early late => exact ⟨_, rfl, guarded _ (hboundary early late) (hlanded early late)⟩
  case crossing us =>
    refine ⟨_, rfl, ?_⟩
    split
    · next hon => exact relaysHold_takeCrossing h (by simpa [State.takesCrossings] using hon) _
    · exact h
  case sourceQualified us =>
    refine ⟨_, rfl, ?_⟩
    split
    · next hq =>
      simp only [State.qualifiesAt, State.takesCrossings, Bool.and_eq_true, decide_eq_true_eq] at hq
      obtain ⟨⟨hon, -⟩, -⟩ := hq
      exact relaysHold_takeCrossing h hon _
    · exact h
  case lossDeadlineExpiry us => exact ⟨_, rfl, guarded _ (relaysHold_expireLoss hlists h _) h⟩
  all_goals exact exec_line_relaysHold rfl hr h

end

/-- Settles O56: every operation keeps each line's share, `State.Relays`, and rest in HALTED, while the ring lists are
consistent; so does every command. -/
theorem stepKeepsRelays : Obligations.StepKeepsRelays := fun s t hr h hstep => by
  have ⟨hlines, hhalted⟩ := (relaysConsistent_iff hr).1 h
  have hhold : s.RelaysHold := ⟨hlines, hhalted⟩
  have hkept : t.RelaysHold := step_keeps hhold (fun i q => exec_relaysHold i (s := { s with pending := q }) hr
    (relaysHold_of_lines hhold rfl rfl rfl)) hstep
  exact (relaysConsistent_iff (stepKeepsRingLists s t hr hstep)).2 ⟨hkept.lines, hkept.halted⟩

end Sys2Proof.Machine
end

section
/-! PROOFS. O27 and O44: the start of a line test, and its samples. -/

namespace Sys2Proof.Machine

open Sys2Proof.Safety

/-! ### The order (R136) -/

section

variable {s : State} {n : LineNo} {seq : Byte} {us : Fin 1000}

/-- R136: TEST where it is accepted. -/
theorem orderTest_of_accepted (hcard : s.cardPresent n = true) (hst : s.stateOf n = .idle) (now : Instant) :
    s.orderTest n now = (s.updLine n fun l => l.startTest now).accept := by
  simp [State.orderTest, hcard, hst]

/-- R130, R136: the test relay, which stood released, is operated with one word. -/
theorem sent_of_operated {t : State} (h : Sends n s t) (hcard : s.cardPresent n = true)
    (hbefore : (s.line n).rel.testRelay = false) (hafter : (t.line n).rel.testRelay = true) :
    t.sent = { line := n, setting := (t.line n).setting } :: s.sent := by
  have hchanged : (s.line n).setting ≠ (t.line n).setting := fun he => by
    have hrelay : (s.line n).rel.testRelay = (t.line n).rel.testRelay := congrArg RelaySetting.testRelay he
    simp [hbefore, hafter] at hrelay
  rw [h, relayWords, if_pos (by simp [hcard, hchanged])]
  rfl

end

/-- Settles O27: the refusals change nothing, and an accepted TEST is `Line.startTest` with R13's record. -/
theorem testOrderStartsTest : Obligations.TestOrderStartsTest := by
  intro n seq us s ht
  refine ⟨fun hcard => ?_, fun hcard hst => ?_, fun hcard hst => ?_⟩
  · exact onlyAnswered_of_unchanged rfl ht (if_pos (by simp [hcard]))
  · exact onlyAnswered_of_unchanged rfl ht ((if_neg (by simp [hcard])).trans (if_pos hst))
  · have hanswer := orderTest_of_accepted hcard hst (s.instantAt us)
    have hworks := works_orderTest s n (s.instantAt us)
    obtain ⟨hline, hsched⟩ := taken_line hworks 7 seq
    have hstarted : ((s.orderTest n (s.instantAt us)).taken n 7 seq).line n =
        answered s ((s.line n).startTest (s.instantAt us)) .accepted 7 seq := by
      rw [hline, hanswer, State.accept, State.updLine_line_same]
      rfl
    refine ⟨_, congrArg Host.Outcome.next (order_of_takes ht 7 _), hstarted, ?_, fun hrelay => ?_⟩
    · rw [hsched, hanswer]
      rfl
    · exact sent_of_operated (hworks.taken 7 seq).sends hcard hrelay (by rw [hstarted]; rfl)

/-! ### Its samples (R46, R137) -/

section

variable {s t : State} {n : LineNo} {a : Option Byte} {x : TestRecord}

/-- R39: a test is the ignore mode. -/
theorem ignore_of_testing (h : s.stateOf n = .testing) : s.modeOf n = .ignore := by
  unfold State.modeOf Line.mode
  rw [show (s.line n).sup.state = .testing from h]

/-- R137: from the settle end on a sample is a measuring one. -/
theorem measured_eq {l : Line} (hst : l.sup.state = .testing) (hx : l.rel.test = some x) (now : Instant) (v : Nat) :
    l.measured now v = if x.settleEnd ≤ now then some (x.measure v) else none := by
  simp only [Line.measured, hst, hx]

/-- R137: in TESTING a sample is passed over, recorded, or the last. -/
theorem ignoredSample_of_testing (hst : t.stateOf n = .testing) (hx : (t.line n).rel.test = some x) (now : Instant)
    (v : Nat) : t.ignoredSample n now v =
      if x.settleEnd ≤ now then
        if 8 ≤ x.count + 1 then t.finishTest n (x.sum + v)
        else t.updLine n fun l => { l with rel.test := some (x.measure v) }
      else t := by
  have hguard : (t.line n).guardOver now = none := by
    simp only [Line.guardOver, show (t.line n).sup.state = .testing from hst]
  unfold State.ignoredSample
  rw [hguard, measured_eq hst hx]
  by_cases hsettled : x.settleEnd ≤ now
  · rw [if_pos hsettled, if_pos hsettled]
    rfl
  · rw [if_neg hsettled, if_neg hsettled]

/-- R137: a sample arrival of a line under test. -/
theorem arrival_of_testing (hs : Sampled s n) (hst : s.stateOf n = .testing) (hx : (s.line n).rel.test = some x)
    (hdue : s.deadlineDue n = none) : s.arrival n a =
      if x.settleEnd ≤ s.arrivalInstant n then
        if 8 ≤ x.count + 1 then (s.delivered n).finishTest n (x.sum + sampleOf a)
        else (s.delivered n).updLine n fun l => { l with rel.test := some (x.measure (sampleOf a)) }
      else s.delivered n := by
  have hdelivered : (s.delivered n).deadlineDue n = none := (alike_delivered s n).deadlineDue.trans hdue
  rw [arrival_of_ignore hs (ignore_of_testing hst), ignoredSample_of_testing (x := x)
    ((delivered_stateOf s n).trans hst) (by rw [delivered_line]; exact hx)]
  split
  · split
    · exact judgeDeadline_of_not_due (deadlineDue_of_none (by simp [State.finishTest, Line.endTest]))
    · have hrecorded : Alike n (s.delivered n) ((s.delivered n).updLine n fun l =>
          { l with rel.test := some (x.measure (sampleOf a)) }) := ⟨by rw [State.updLine_line_same], rfl, rfl, rfl⟩
      exact judgeDeadline_of_not_due (hrecorded.deadlineDue.trans hdelivered)
  · exact judgeDeadline_of_not_due hdelivered

/-- Log 6: the row is the whole arrival at the eighth measuring sample. -/
theorem bringsTestEnd_eq_true (hs : Sampled s n) (hst : s.stateOf n = .testing) (hx : (s.line n).rel.test = some x)
    (hsettled : x.settleEnd ≤ s.arrivalInstant n) (hcount : x.count = 7) : s.bringsTestEnd n a = true := by
  rw [State.bringsTestEnd, delivers_iff.2 hs, measured_eq hst hx, if_pos hsettled]
  simp [TestRecord.measure, hcount, Config.eightSamples]

/-- R137: the line as the eighth measuring sample leaves it. -/
theorem finishTest_line (t : State) (n : LineNo) (sum : Nat) : (t.finishTest n sum).line n =
    reported t (t.line n).endTest
      (.testResult (testOutcome t.control.params (testMeasure sum (t.line n).cls.leakage))
        (testMeasure sum (t.line n).cls.leakage)) := by
  rw [State.finishTest, State.report_line_same, State.updLine_line_same]
  rfl

end

/-- Settles O44: the arrival is `arrival_of_testing`, and its end `finishTest_line`. -/
theorem testMeasuresEightSamples : Obligations.TestMeasuresEightSamples := by
  intro n a s x hx hs hst hdue k l now m
  have harrival := arrival_of_testing (a := a) hs hst hx hdue
  refine ⟨fun hsettling => ?_, fun hsettled hcount => ?_, fun hsettled hcount => ?_⟩
  · rw [if_neg (not_le.2 hsettling)] at harrival
    exact ⟨_, rfl, by rw [harrival, delivered_line], by rw [harrival]; rfl⟩
  · rw [if_pos hsettled, if_neg (by omega)] at harrival
    refine ⟨_, rfl, ?_, by rw [harrival]; rfl⟩
    rw [harrival, State.updLine_line_same, delivered_line]
    rfl
  · rw [if_pos hsettled, if_pos (by omega)] at harrival
    refine ⟨_, congrArg Host.Outcome.next (arrivalIf_true (bringsTestEnd_eq_true hs hst hx hsettled hcount)), ?_,
      by rw [harrival]; rfl⟩
    rw [harrival, finishTest_line, delivered_line]
    rfl

end Sys2Proof.Machine
end

section
/-! PROOFS. O54: what an append makes of a line's reckoning. -/

namespace Sys2Proof.Machine

open Sys2Proof.Safety

/-! ### The codes of a report (R140; Layouts, Report entry) -/

theorem LineState.code_eq_stateCode (st : LineState) : st.code = stateCode st := by
  cases st <;> rfl

theorem OrderOutcome.code_eq_outcomeCode (o : OrderOutcome) : o.code = outcomeCode o := by
  cases o <;> rfl

/-- The model's kind, detail and value are the codes of the tables, report by report. -/
theorem reportCodes_eq (r : Report) : reportCodes r = (r.kind, r.detail, r.value) := by
  cases r with
  | order outcome kind seq =>
    simp only [reportCodes, Report.kind, Report.detail, Report.value, OrderOutcome.code_eq_outcomeCode]
  | clear left =>
    simp only [reportCodes, Report.kind, Report.detail, Report.value, LineState.code_eq_stateCode]
  | answer how frames => cases how <;> rfl
  | ringQueued cause position => cases cause <;> rfl
  | timeout which => cases which <;> rfl
  | testResult result measure => cases result <;> rfl
  | _ => rfl

/-! ### The pending count, and the two outcomes of an append (R140, R141) -/

/-- The pending count, reckoned without wrapping bytes. -/
theorem Reckoning.pending_eq (k : Reckoning) :
    k.pending = (k.written.toNat + 256 - k.taken.toNat) % 256 := by
  have htaken := k.taken.isLt
  unfold Reckoning.pending
  rw [BitVec.toNat_sub]
  congr 1
  omega

/-- R140: a full list drops the report. -/
theorem Reckoning.append_of_full {k : Reckoning} (h : k.pending = 8) (p : Params) (time : Nat) (r : Report)
    (after : LineState) :
    k.append p time r after = { k.drop with attention := k.attention || !r.quiet p } := by
  simp only [Reckoning.append, Config.listDepth, h, lt_irrefl, if_true, if_false]
  rfl

/-- R140: a list that is not full takes the report, with a count fault where the pending count is above 8. -/
theorem Reckoning.append_of_not_full {k : Reckoning} (h : k.pending ≠ 8) (p : Params) (time : Nat) (r : Report)
    (after : LineState) : k.append p time r after = { k.write r time after with
      countFault := k.countFault || decide (8 < k.pending), attention := k.attention || !r.quiet p } := by
  unfold Reckoning.append
  by_cases hfault : 8 < k.pending
  · simp only [Config.listDepth, hfault, if_true, decide_true, Bool.or_true]
    rfl
  · simp only [Config.listDepth, hfault, h, if_false, decide_false, Bool.or_false]
    rfl

/-- R142: a kind that is not quiet sets the attention bit, and no append clears it. -/
theorem Reckoning.append_attention_eq (k : Reckoning) (p : Params) (time : Nat) (r : Report) (after : LineState) :
    (k.append p time r after).attention = (k.attention || !r.quiet p) := by
  by_cases h : k.pending = 8
  · rw [append_of_full h]
  · rw [append_of_not_full h]

/-- R140: an append takes no report off the list. -/
theorem Reckoning.append_taken (k : Reckoning) (p : Params) (time : Nat) (r : Report) (after : LineState) :
    (k.append p time r after).taken = k.taken := by
  by_cases h : k.pending = 8
  · rw [append_of_full h]
    rfl
  · rw [append_of_not_full h]
    rfl

/-- R140: the dropped counter stops at 255. -/
theorem Reckoning.drop_dropped (k : Reckoning) : k.drop.dropped.toNat = min 255 (k.dropped.toNat + 1) := by
  unfold Reckoning.drop
  dsimp only
  split <;> bv_omega

/-- R140: the entry stands at written count mod 8, and every other entry stays. -/
theorem Reckoning.write_entries (k : Reckoning) (r : Report) (time : Nat) (after : LineState) (i : Fin 8) :
    (k.write r time after).entries[i] =
      if i.val = k.written.toNat % 8 then r.entry time k.dropped after else k.entries[i] := by
  simp only [Reckoning.write, Fin.getElem_fin, Vector.getElem_set, eq_comm (a := i.val)]

/-- Settles O54: a full list by `Reckoning.append_of_full`, any other by `Reckoning.append_of_not_full`, with the codes
by `reportCodes_eq`. -/
theorem appendWritesDropsOrFaults : Obligations.AppendWritesDropsOrFaults := by
  intro k p time r after untaken k' codes
  have hpending : k.pending = untaken := k.pending_eq
  have hcodes : codes = (r.kind, r.detail, r.value) := reportCodes_eq r
  refine ⟨?_, k.append_taken p time r after, fun hfull => ?_, fun hroom => ?_⟩
  · simp only [k', k.append_attention_eq, hcodes, Report.quiet, Bool.or_eq_true, Bool.not_eq_true']
  · have happend : k' = _ := Reckoning.append_of_full (hpending.trans hfull) p time r after
    rw [happend]
    exact ⟨rfl, rfl, rfl, k.drop_dropped⟩
  · have happend : k' = _ := Reckoning.append_of_not_full (hpending ▸ hroom) p time r after
    rw [happend]
    refine ⟨BitVec.toNat_add _ _, rfl, ?_, fun i => ?_⟩
    · simp only [Bool.or_eq_true, decide_eq_true_eq, hpending]
    · rw [hcodes, ← LineState.code_eq_stateCode]
      exact k.write_entries r time after i

end Sys2Proof.Machine
end

section
/-! PROOFS. O17: a visit that takes no order. -/

namespace Sys2Proof.Machine

/-! ### The taken count is read (R10, R141) -/

/-- R141: the count read is stored; equal counts clear the bit and the fault, and a pending count above 8 sets the
fault. -/
theorem Reckoning.visited_eq (k : Reckoning) (taken : Byte) :
    let untaken := (k.written.toNat + 256 - taken.toNat) % 256
    k.visited taken = { k with
      taken := taken
      attention := if untaken = 0 then false else k.attention
      countFault := if untaken = 0 then false else if 8 < untaken then true else k.countFault } := by
  intro untaken
  have hpending : Reckoning.pending { k with taken := taken } = untaken := Reckoning.pending_eq _
  unfold Reckoning.visited
  simp only [hpending, Config.listDepth]
  by_cases hnone : untaken = 0
  · simp only [hnone, if_true]
  · by_cases hfault : 8 < untaken <;> simp only [hnone, hfault, if_true, if_false]

/-- R143: the read of a taken count changes the line's reckoning and, where it clears the latched line's bit, the
latch; it moves no relay, so it sends no word. -/
theorem readTakenCount_eq (s : State) (n : LineNo) : s.readTakenCount n = { s with
    lines := (s.readTakenCount n).lines
    latch := if s.latch = some n ∧ (s.readTakenCount n).attentionBit n = false then none else s.latch } := by
  have hsent : (s.readTakenCount n).sent = s.sent := by
    have hwords := State.updLine_sent s n fun l => { l with rep := l.rep.visited (s.takenCount n) }
    exact hwords.trans (congrArg (· ++ s.sent) (relayWords_of_setting_eq (s.cardPresent n) n rfl))
  rw [← hsent]
  rfl

/-! ### The visit (R10, R11) -/

/-- R10: the sequence number stands in the mailbox of the line record. -/
theorem readByte_mailSequence (s : State) (n : LineNo) : s.readByte (recordBase n + 0x10) = s.mailSequence n :=
  State.readByte_hostOwned s (hostOwned_iff.2 (.inr (by unfold recordBase; omega)))

/-- A visit finds no order to take: the shelf is not RUNNING, or the mailbox holds the taken sequence (R10, R11). -/
def State.FindsNoOrder (s : State) : Prop :=
  s.control.shelf ≠ .running ∨ s.mailSequence s.visitPointer = (s.line s.visitPointer).takenSeq

/-- R11: a consistent read that finds the taken sequence takes nothing, and the writes land. -/
theorem consistentRead_of_takenSeq {s : State} {n : LineNo} (h : s.mailSequence n = (s.line n).takenSeq)
    (now : Instant) (early late : List BusWrite) : s.consistentRead n now early late = s.landed early late :=
  if_neg fun hnew => hnew.1 h

/-- A visit that finds no order reads the taken count, lets its writes land and moves on (log 9). -/
theorem visit_of_findsNoOrder {s : State} (h : s.FindsNoOrder) (now : Instant) (early late : List BusWrite) :
    s.visit now early late =
      { (s.readTakenCount s.visitPointer).landed early late with visitPointer := s.visitPointer + 1 } := by
  unfold State.visit
  dsimp only
  split
  case isFalse => rfl
  case isTrue hrunning =>
    have hseq : (s.readTakenCount s.visitPointer).mailSequence s.visitPointer =
        ((s.readTakenCount s.visitPointer).line s.visitPointer).takenSeq := by
      rw [readTakenCount_line, if_pos rfl]
      exact h.resolve_left fun hoff => hoff hrunning
    rw [consistentRead_of_takenSeq hseq]

/-- The frame of a visit that finds no order: beyond the landed writes, the pointer, the lines and the latch as the
read of the taken count leaves them. -/
theorem visit_eq_landed {s : State} (h : s.FindsNoOrder) (now : Instant) (early late : List BusWrite) :
    s.visit now early late = { s.landed early late with
      visitPointer := s.visitPointer + 1
      lines := (s.readTakenCount s.visitPointer).lines
      latch := (s.readTakenCount s.visitPointer).latch } := by
  have hread := landed_of_port_eq (s := s) (u := s.readTakenCount s.visitPointer) rfl early late
  have hself := landed_of_port_eq (s := s) rfl early late
  rw [visit_of_findsNoOrder h, hread, hself, readTakenCount_eq]

theorem visit_line {s : State} (h : s.FindsNoOrder) (now : Instant) (early late : List BusWrite) (m : LineNo) :
    (s.visit now early late).line m = (s.readTakenCount s.visitPointer).line m := by
  rw [visit_eq_landed h]
  exact State.line_congr rfl m

/-- Settles O17: the visit is `visit_eq_landed`, and the reckoning of its line `Reckoning.visited_eq`. -/
theorem visitReadsTakenCount : Obligations.VisitReadsTakenCount := by
  intro us early late s n k taken untaken hidle
  rw [readByte_mailSequence] at hidle
  have hvisit := visit_eq_landed hidle (s.instantAt us) early late
  refine ⟨s.visit (s.instantAt us) early late, rfl, ?_, ?_, fun m hm => ?_, hostBytesKept_of_mem ?_, ?_⟩
  · rw [hvisit]
    exact Fin.val_add _ _
  · rw [visit_line hidle, readTakenCount_line, if_pos rfl, Reckoning.visited_eq, ← readByte_takenCount]
  · rw [visit_line hidle, readTakenCount_line, if_neg hm]
  · rw [hvisit]
  · rw [hvisit]

end Sys2Proof.Machine
end

section
/-! PROOFS. O7, O8: the attention latch and the interrupt output. -/

namespace Sys2Proof.Machine

open Sys2Proof.Safety

/-! ### The latch after a read (R143) -/

theorem latchAfterRead_of_some {s : State} {n : LineNo} (h : s.latch = some n) : s.latchAfterRead = some n := by
  unfold State.latchAfterRead
  rw [h]
  rfl

theorem latchAfterRead_of_none {s : State} (h : s.latch = none) :
    s.latchAfterRead = (List.finRange 64).find? s.attentionBit := by
  unfold State.latchAfterRead
  rw [h]
  rfl

/-- A read that finds the latch empty latches the lowest-numbered line whose bit is set. -/
theorem latchAfterRead_of_lowest {s : State} {n : LineNo} (h : s.latch = none) (hn : s.attentionBit n = true)
    (hbelow : ∀ m, m < n → s.attentionBit m = false) : s.latchAfterRead = some n := by
  rw [latchAfterRead_of_none h, List.find?_eq_some_iff_getElem]
  refine ⟨hn, n.val, by simp, by simp, fun j hj => ?_⟩
  rw [List.getElem_finRange, hbelow _ hj]
  rfl

/-- A read with no bit set leaves an empty latch empty. -/
theorem latchAfterRead_of_no_attention {s : State} (h : s.latch = none) (hcount : s.attentionCount = 0) :
    s.latchAfterRead = none := by
  rw [latchAfterRead_of_none h, List.find?_eq_none]
  exact List.countP_eq_zero.1 hcount

/-! ### The attention register (R9) -/

theorem attentionCount_le (s : State) : s.attentionCount ≤ 64 := by
  simpa [State.attentionCount] using
    List.countP_le_length (p := s.attentionBit) (l := List.finRange 64)

/-- R9: the count in the low byte, the latched line's number above it, and *latch held* on top; the number of an empty
latch reads 0 (log 27). -/
theorem attentionWord_toNat (s : State) : s.attentionWord.toNat = s.attentionCount +
    (match s.latch with | some n => 0x8000 + 0x100 * n.val | none => 0) := by
  have hcount := attentionCount_le s
  unfold State.attentionWord
  rw [BitVec.toNat_ofNat]
  cases s.latch with
  | none => exact Nat.mod_eq_of_lt (by dsimp only; omega)
  | some n =>
    dsimp only
    omega

theorem readWord_attention (s : State) : s.readWord 0x3FFE = s.attentionWord := joinBytes_bytes s.attentionWord

/-- Settles O7: the read is `State.readAttention`, the visit `visit_eq_landed` with `readTakenCount_eq`. -/
theorem attentionReadLatchesLowestLine : Obligations.AttentionReadLatchesLowestLine := by
  refine ⟨fun s => ⟨s.readAttention, rfl, fun n => latchAfterRead_of_some,
      fun hempty n => latchAfterRead_of_lowest hempty, latchAfterRead_of_no_attention, ?_, ?_, rfl⟩,
    fun us early late s => ⟨_, rfl, fun hidle _ => ?_⟩, fun r e s => ⟨_, rfl, ?_⟩⟩
  · exact attentionWord_toNat { s with latch := s.latchAfterRead }
  · exact (readWord_attention s.readAttention).symm
  · unfold State.attentionBit
    rw [visit_line hidle, visit_eq_landed hidle, readTakenCount_eq]
    rfl
  · rw [softReset_eq]

/-! ### The interrupt output (R144) -/

theorem attentionCount_pos_iff (s : State) : 0 < s.attentionCount ↔ ∃ n, s.attentionBit n = true := by
  simp [State.attentionCount, List.countP_pos_iff]

theorem interruptAsserted_iff (s : State) :
    s.interruptAsserted = true ↔ s.port.interruptEnable = true ∧ ∃ n, s.attentionBit n = true := by
  unfold State.interruptAsserted
  rw [Bool.and_eq_true, decide_eq_true_eq, attentionCount_pos_iff]

/-- R7: bit 1 of the control register reads INTERRUPT ENABLE. -/
theorem readWord_interruptEnable (s : State) :
    s.readWord 0x3FFC &&& 2 = 2 ↔ s.port.interruptEnable = true := by
  have hword : s.readWord 0x3FFC = s.controlWord := joinBytes_bytes s.controlWord
  rw [hword]
  unfold State.controlWord
  cases s.port.run <;> cases s.port.interruptEnable <;> decide

/-- R7: a write that leaves RUN as it shows the shelf state stores INTERRUPT ENABLE alone. -/
theorem exec_interruptEnable {s : State} (hrun : RunShowsShelf s) (v : Bool) :
    exec (.interruptEnable v) s = .next { s with port.interruptEnable := v } := by
  refine congrArg Host.Outcome.next ?_
  unfold State.writeControl
  by_cases hhalted : s.control.shelf = .halted
  · have hoff : s.port.run ≠ true := fun h => hrun.1 h hhalted
    rw [if_neg hoff, if_pos hhalted]
  · rw [if_pos (hrun.2 hhalted), if_neg hhalted]
    rfl

/-- R18: a halt leaves the enable and every attention bit, and so the output. -/
theorem haltShelf_interruptAsserted (s : State) : s.haltShelf.interruptAsserted = s.interruptAsserted := by
  unfold State.interruptAsserted
  rw [haltShelf_attentionCount, haltShelf_eq]

/-- R144: without INTERRUPT ENABLE the output is released. -/
theorem interruptAsserted_of_disabled {s : State} (h : s.port.interruptEnable = false) :
    s.interruptAsserted = false := by
  unfold State.interruptAsserted
  rw [h, Bool.false_and]

/-- Settles O8: the output is `interruptAsserted_iff`; each command keeps both its inputs or clears the enable. -/
theorem interruptFollowsCountAndEnable : Obligations.InterruptFollowsCountAndEnable := by
  refine ⟨fun s => ?_, fun v s hrun => ⟨_, exec_interruptEnable hrun v, rfl, interruptAsserted_iff _⟩,
    fun s => ⟨_, rfl, rfl⟩, fun b s => ⟨_, rfl, interruptAsserted_of_disabled rfl⟩,
    fun r e s => ⟨_, rfl, interruptAsserted_of_disabled (by rw [softReset_eq])⟩, fun s => ?_⟩
  · rw [interruptAsserted_iff, readWord_interruptEnable, and_comm]
  · by_cases hhalted : s.control.shelf = .halted
    · exact ⟨_, exec_halt_of_halted hhalted _, rfl⟩
    · exact ⟨_, exec_halt_of_not_halted hhalted _, haltShelf_interruptAsserted _⟩

end Sys2Proof.Machine
end

section
/-! PROOFS. O1: a step by the commands that wait. -/

namespace Sys2Proof.Machine

open Sys2Proof.Safety

/-- Section 95: the front command is taken whole, and meets the state with the queue's rest. -/
theorem step_of_pending_cons {s : State} {c : Instr} {q : List Instr} (h : s.pending = c :: q) :
    step s = exec c { s with pending := q } := by
  unfold step
  rw [h]

/-- Log 1: with nothing waiting the part idles. -/
theorem step_of_pending_nil {s : State} (h : s.pending = []) : step s = .next s := by
  unfold step
  rw [h]

/-- Settles O1: the queue with a front command is `step_of_pending_cons`, the empty one `step_of_pending_nil`. -/
theorem stepRunsFrontCommand : Obligations.StepRunsFrontCommand :=
  ⟨fun c q s => step_of_pending_cons (s := { s with pending := c :: q }) rfl, fun _ => step_of_pending_nil⟩

end Sys2Proof.Machine
end
